-- ==== Sys2Proof/Word.lean ====
section
/-!
DEFINITION. The byte and the two widths the spec works with (00_scope.md R9, R10).
-/

namespace Sys2Proof

/-- One byte of machine code; its bits are numbered 7 down to 0 (R10). -/
abbrev Byte := BitVec 8

/-- The two values of the operand-size and of the address-size attribute (R9, R43). -/
inductive Width where
  | s16
  | s32
deriving DecidableEq, Repr

/-- How many bytes a field of that width has: `osz/8` and `asz/8` of the spec (R124). -/
def Width.bytes : Width → Nat
  | .s16 => 2
  | .s32 => 4

/-- The two attributes that decide how an instruction's fields are sized (R43). -/
structure Attrs where
  /-- the effective operand size -/
  osz : Width
  /-- the effective address size -/
  asz : Width
deriving DecidableEq, Repr

end Sys2Proof
end

