-- ==== Sys2Proof/Syntax.lean ====
section
/-!
DEFINITION. The syntax of the block: the operand-encoding specs and descriptors of an opcode table
(10_state.md R31, R32; 30_encoding.md R120 to R125), the encoded fields of one instruction
(30_encoding.md R90, R94, R95), and `Instr`, one constructor per row of spec/opcode_table.json.
-/

namespace Sys2Proof

/-! ## Names of registers (10_state.md R33) -/

/-- The six segment registers, in the order of their numbers 0 to 5. -/
inductive SegReg where
  | es | cs | ss | ds | fs | gs
deriving DecidableEq, Repr

/-- The 54 registers of REGISTER_TABLE. A value is a reference to the register of that name; two
references are equal exactly when their names are (R34). -/
inductive Reg where
  | al | cl | dl | bl | ah | ch | dh | bh
  | ax | cx | dx | bx | sp | bp | si | di
  | eax | ecx | edx | ebx | esp | ebp | esi | edi
  | seg (r : SegReg)
  | cr0 | cr1 | cr2 | cr3 | cr4 | cr5 | cr6 | cr7
  | dr0 | dr1 | dr2 | dr3 | dr4 | dr5 | dr6 | dr7
  | tr0 | tr1 | tr2 | tr3 | tr4 | tr5 | tr6 | tr7
deriving DecidableEq, Repr

/-! ## Operand-encoding specs (30_encoding.md R120 to R125) -/

/-- The type codes of R122. -/
inductive OpType where
  /-- byte -/
  | b
  /-- word, 16 bits -/
  | w
  /-- doubleword, 32 bits -/
  | d
  /-- word or doubleword by the operand size -/
  | v
  /-- a byte immediate the consumer sign-extends -/
  | bs
  /-- a far pointer in memory -/
  | p
  /-- a pair of `v` operands in memory -/
  | a
  /-- a 6-byte pseudo-descriptor in memory -/
  | s
deriving DecidableEq, Repr

/-- The fixed register names a spec may be (R120, R125). -/
inductive FixedReg where
  | al | cl | dx
  /-- AX or EAX by the operand size -/
  | eAX
  | seg (r : SegReg)
deriving DecidableEq, Repr

/-- One operand-encoding spec: the closed set of methods of R121 and R253. -/
inductive Spec where
  /-- rm field: register or memory (R194) -/
  | E (t : OpType)
  /-- rm field: memory only; `none` is a bare `M` (R195) -/
  | M (t : Option OpType)
  /-- reg field: general register (R196) -/
  | G (t : OpType)
  /-- rm field: 32-bit general register, mod ignored (R197) -/
  | R (t : OpType)
  /-- reg field: segment register (R198) -/
  | S (t : OpType)
  /-- reg field: control register (R199) -/
  | C (t : OpType)
  /-- reg field: debug register (R199) -/
  | D (t : OpType)
  /-- reg field: test register (R199) -/
  | T (t : OpType)
  /-- direct offset (R200) -/
  | O (t : OpType)
  /-- immediate (R201) -/
  | I (t : OpType)
  /-- relative offset (R203) -/
  | J (t : OpType)
  /-- the constant 1 (R205) -/
  | one
  /-- implicit register (R206) -/
  | fixed (r : FixedReg)
  /-- register in the low three bits of the last opcode byte (R207) -/
  | Z (t : OpType)
  /-- string source (R208) -/
  | X (t : OpType)
  /-- string destination (R209) -/
  | Y (t : OpType)
  /-- x87 operand, the one method the block does not support (R213) -/
  | fpu
deriving DecidableEq, Repr

/-- An OpcodeDescriptor (R32): the mnemonic, the ordered operand specs and the extension-group flag,
which is false in every descriptor an Instruction carries. -/
structure OpcodeDescriptor where
  name : String
  specs : List Spec
  isGroup : Bool
deriving DecidableEq, Repr

/-- The descriptor of a row: its name and specs, the group flag false (R32). -/
def opcode (name : String) (specs : List Spec) : OpcodeDescriptor := ⟨name, specs, false⟩

/-! ## The opcode table (10_state.md R31) -/

/-- Which opcode map the next opcode byte indexes: the one-byte map, or after the escape 0F the
two-byte map (30_encoding.md R93). -/
inductive OpMap where
  | oneByte
  | twoByte
deriving DecidableEq, Repr

/-- A key of OPCODE_TABLE: `(b0)` or `(0F, b1)` (R31, R161). -/
inductive Key where
  | one (b : Byte)
  | two (b : Byte)
deriving DecidableEq, Repr

/-- What the table holds at a key: a descriptor, or a group of eight slots, each a descriptor or
empty (R31). -/
inductive Entry where
  | desc (d : OpcodeDescriptor)
  | group (slots : List (Option OpcodeDescriptor))
deriving DecidableEq, Repr

/-- OPCODE_TABLE: a finite partial map from keys to entries (R31). -/
abbrev OpcodeTable := List (Key × Entry)

/-! ## The encoded fields of one instruction (30_encoding.md R90, R94, R95) -/

/-- The three fields of a ModRM byte (R94). -/
structure ModRM where
  mod : BitVec 2
  reg : BitVec 3
  rm : BitVec 3
deriving DecidableEq, Repr

/-- The three fields of a SIB byte (R95). -/
structure Sib where
  ss : BitVec 2
  index : BitVec 3
  base : BitVec 3
deriving DecidableEq, Repr

/-- A displacement, an immediate or an offset as it is encoded: absent, or 1, 2 or 4 bytes (R9). -/
inductive Field where
  | absent
  | f8 (v : BitVec 8)
  | f16 (v : BitVec 16)
  | f32 (v : BitVec 32)
deriving DecidableEq, Repr

/-- How many bytes a field has in the stream: 0, 1, 2 or 4. -/
def Field.size : Field → Nat
  | .absent => 0
  | .f8 _ => 1
  | .f16 _ => 2
  | .f32 _ => 4

/-- The ModRM block less its reg field: what an E or M operand is encoded by. -/
structure Rm where
  mod : BitVec 2
  rm : BitVec 3
  sib : Option Sib
  disp : Field
deriving DecidableEq, Repr

/-- Every field of one instruction after its opcode byte: the ModRM block, then the trailing fields
in stream order (R90). -/
structure Fields where
  modrm : Option ModRM
  sib : Option Sib
  disp : Field
  trailing : List Field
deriving DecidableEq, Repr

/-- An instruction with no ModRM block: its trailing fields only. -/
def Fields.plain (trailing : List Field) : Fields := ⟨none, none, .absent, trailing⟩

/-- An instruction with a ModRM block and the given reg field. -/
def Fields.block (reg : BitVec 3) (e : Rm) (trailing : List Field) : Fields :=
  ⟨some ⟨e.mod, reg, e.rm⟩, e.sib, e.disp, trailing⟩

/-- An instruction whose ModRM byte stands alone: no spec reads a memory operand (R184, R197). -/
def Fields.lone (mod : BitVec 2) (reg rm : BitVec 3) : Fields :=
  ⟨some ⟨mod, reg, rm⟩, none, .absent, []⟩

/-! ## What a failure names (10_state.md R54) -/

/-- The field a failure was raised at. -/
inductive FailField where
  | opcode | modrm | sib | displacement | offset | immediate
deriving DecidableEq, Repr

/-! ## The rows of the opcode table

A `reg` argument is the ModRM reg field, an `e` the rest of the ModRM block, an `r` the low three
bits of the opcode byte; an `imm`, `rel`, `off` or `sel` is a trailing field. A row of an extension
group has no `reg`, which is the slot. A trailing field whose width follows the operand size or the
address size is a `Field`; WellFormed.lean says which width it must have. -/

/-- One instruction: one constructor per row of spec/opcode_table.json. -/
inductive Instr where
  /-- 26: prefix ES: (R142). -/
  | prefixES
  /-- 2E: prefix CS: (R142). -/
  | prefixCS
  /-- 36: prefix SS: (R142). -/
  | prefixSS
  /-- 3E: prefix DS: (R142). -/
  | prefixDS
  /-- 64: prefix FS: (R142). -/
  | prefixFS
  /-- 65: prefix GS: (R142). -/
  | prefixGS
  /-- 66: prefix OPSIZE (R143). -/
  | prefixOPSIZE
  /-- 67: prefix ADDRSIZE (R144). -/
  | prefixADDRSIZE
  /-- F0: prefix LOCK (R145). -/
  | prefixLOCK
  /-- F2: prefix REPNE (R146). -/
  | prefixREPNE
  /-- F3: prefix REP (R146). -/
  | prefixREP
  /-- 0F: the escape to the two-byte map (R161). -/
  | escape0F
  /-- 00: ADD Eb, Gb (R300). -/
  | add_00 (reg : BitVec 3) (e : Rm)
  /-- 01: ADD Ev, Gv (R301). -/
  | add_01 (reg : BitVec 3) (e : Rm)
  /-- 02: ADD Gb, Eb (R302). -/
  | add_02 (reg : BitVec 3) (e : Rm)
  /-- 03: ADD Gv, Ev (R303). -/
  | add_03 (reg : BitVec 3) (e : Rm)
  /-- 04: ADD AL, Ib (R304). -/
  | add_04 (imm : BitVec 8)
  /-- 05: ADD eAX, Iv (R305). -/
  | add_05 (imm : Field)
  /-- 06: PUSH ES (R306). -/
  | push_06
  /-- 07: POP ES (R307). -/
  | pop_07
  /-- 08: OR Eb, Gb (R308). -/
  | or_08 (reg : BitVec 3) (e : Rm)
  /-- 09: OR Ev, Gv (R309). -/
  | or_09 (reg : BitVec 3) (e : Rm)
  /-- 0A: OR Gb, Eb (R310). -/
  | or_0A (reg : BitVec 3) (e : Rm)
  /-- 0B: OR Gv, Ev (R311). -/
  | or_0B (reg : BitVec 3) (e : Rm)
  /-- 0C: OR AL, Ib (R312). -/
  | or_0C (imm : BitVec 8)
  /-- 0D: OR eAX, Iv (R313). -/
  | or_0D (imm : Field)
  /-- 0E: PUSH CS (R314). -/
  | push_0E
  /-- 10: ADC Eb, Gb (R315). -/
  | adc_10 (reg : BitVec 3) (e : Rm)
  /-- 11: ADC Ev, Gv (R316). -/
  | adc_11 (reg : BitVec 3) (e : Rm)
  /-- 12: ADC Gb, Eb (R317). -/
  | adc_12 (reg : BitVec 3) (e : Rm)
  /-- 13: ADC Gv, Ev (R318). -/
  | adc_13 (reg : BitVec 3) (e : Rm)
  /-- 14: ADC AL, Ib (R319). -/
  | adc_14 (imm : BitVec 8)
  /-- 15: ADC eAX, Iv (R320). -/
  | adc_15 (imm : Field)
  /-- 16: PUSH SS (R321). -/
  | push_16
  /-- 17: POP SS (R322). -/
  | pop_17
  /-- 18: SBB Eb, Gb (R323). -/
  | sbb_18 (reg : BitVec 3) (e : Rm)
  /-- 19: SBB Ev, Gv (R324). -/
  | sbb_19 (reg : BitVec 3) (e : Rm)
  /-- 1A: SBB Gb, Eb (R325). -/
  | sbb_1A (reg : BitVec 3) (e : Rm)
  /-- 1B: SBB Gv, Ev (R326). -/
  | sbb_1B (reg : BitVec 3) (e : Rm)
  /-- 1C: SBB AL, Ib (R327). -/
  | sbb_1C (imm : BitVec 8)
  /-- 1D: SBB eAX, Iv (R328). -/
  | sbb_1D (imm : Field)
  /-- 1E: PUSH DS (R329). -/
  | push_1E
  /-- 1F: POP DS (R330). -/
  | pop_1F
  /-- 20: AND Eb, Gb (R331). -/
  | and_20 (reg : BitVec 3) (e : Rm)
  /-- 21: AND Ev, Gv (R332). -/
  | and_21 (reg : BitVec 3) (e : Rm)
  /-- 22: AND Gb, Eb (R333). -/
  | and_22 (reg : BitVec 3) (e : Rm)
  /-- 23: AND Gv, Ev (R334). -/
  | and_23 (reg : BitVec 3) (e : Rm)
  /-- 24: AND AL, Ib (R335). -/
  | and_24 (imm : BitVec 8)
  /-- 25: AND eAX, Iv (R336). -/
  | and_25 (imm : Field)
  /-- 27: DAA (R337). -/
  | daa_27
  /-- 28: SUB Eb, Gb (R338). -/
  | sub_28 (reg : BitVec 3) (e : Rm)
  /-- 29: SUB Ev, Gv (R339). -/
  | sub_29 (reg : BitVec 3) (e : Rm)
  /-- 2A: SUB Gb, Eb (R340). -/
  | sub_2A (reg : BitVec 3) (e : Rm)
  /-- 2B: SUB Gv, Ev (R341). -/
  | sub_2B (reg : BitVec 3) (e : Rm)
  /-- 2C: SUB AL, Ib (R342). -/
  | sub_2C (imm : BitVec 8)
  /-- 2D: SUB eAX, Iv (R343). -/
  | sub_2D (imm : Field)
  /-- 2F: DAS (R344). -/
  | das_2F
  /-- 30: XOR Eb, Gb (R345). -/
  | xor_30 (reg : BitVec 3) (e : Rm)
  /-- 31: XOR Ev, Gv (R346). -/
  | xor_31 (reg : BitVec 3) (e : Rm)
  /-- 32: XOR Gb, Eb (R347). -/
  | xor_32 (reg : BitVec 3) (e : Rm)
  /-- 33: XOR Gv, Ev (R348). -/
  | xor_33 (reg : BitVec 3) (e : Rm)
  /-- 34: XOR AL, Ib (R349). -/
  | xor_34 (imm : BitVec 8)
  /-- 35: XOR eAX, Iv (R350). -/
  | xor_35 (imm : Field)
  /-- 37: AAA (R351). -/
  | aaa_37
  /-- 38: CMP Eb, Gb (R352). -/
  | cmp_38 (reg : BitVec 3) (e : Rm)
  /-- 39: CMP Ev, Gv (R353). -/
  | cmp_39 (reg : BitVec 3) (e : Rm)
  /-- 3A: CMP Gb, Eb (R354). -/
  | cmp_3A (reg : BitVec 3) (e : Rm)
  /-- 3B: CMP Gv, Ev (R355). -/
  | cmp_3B (reg : BitVec 3) (e : Rm)
  /-- 3C: CMP AL, Ib (R356). -/
  | cmp_3C (imm : BitVec 8)
  /-- 3D: CMP eAX, Iv (R357). -/
  | cmp_3D (imm : Field)
  /-- 3F: AAS (R358). -/
  | aas_3F
  /-- 40+r: INC Zv (R359). -/
  | inc_40 (r : BitVec 3)
  /-- 48+r: DEC Zv (R360). -/
  | dec_48 (r : BitVec 3)
  /-- 50+r: PUSH Zv (R361). -/
  | push_50 (r : BitVec 3)
  /-- 58+r: POP Zv (R362). -/
  | pop_58 (r : BitVec 3)
  /-- 60: PUSHA (R363). -/
  | pusha_60
  /-- 61: POPA (R364). -/
  | popa_61
  /-- 62: BOUND Gv, Ma (R365). -/
  | bound_62 (reg : BitVec 3) (e : Rm)
  /-- 63: ARPL Ew, Gw (R366). -/
  | arpl_63 (reg : BitVec 3) (e : Rm)
  /-- 68: PUSH Iv (R367). -/
  | push_68 (imm : Field)
  /-- 69: IMUL Gv, Ev, Iv (R368). -/
  | imul_69 (reg : BitVec 3) (e : Rm) (imm : Field)
  /-- 6A: PUSH Ibs (R369). -/
  | push_6A (imm : BitVec 8)
  /-- 6B: IMUL Gv, Ev, Ibs (R370). -/
  | imul_6B (reg : BitVec 3) (e : Rm) (imm : BitVec 8)
  /-- 6C: INSB Yb, DX (R371). -/
  | insb_6C
  /-- 6D: INSW Yv, DX (R372). -/
  | insw_6D
  /-- 6E: OUTSB DX, Xb (R373). -/
  | outsb_6E
  /-- 6F: OUTSW DX, Xv (R374). -/
  | outsw_6F
  /-- 70: JO Jb (R375). -/
  | jo_70 (rel : BitVec 8)
  /-- 71: JNO Jb (R376). -/
  | jno_71 (rel : BitVec 8)
  /-- 72: JB Jb (R377). -/
  | jb_72 (rel : BitVec 8)
  /-- 73: JNB Jb (R378). -/
  | jnb_73 (rel : BitVec 8)
  /-- 74: JZ Jb (R379). -/
  | jz_74 (rel : BitVec 8)
  /-- 75: JNZ Jb (R380). -/
  | jnz_75 (rel : BitVec 8)
  /-- 76: JBE Jb (R381). -/
  | jbe_76 (rel : BitVec 8)
  /-- 77: JNBE Jb (R382). -/
  | jnbe_77 (rel : BitVec 8)
  /-- 78: JS Jb (R383). -/
  | js_78 (rel : BitVec 8)
  /-- 79: JNS Jb (R384). -/
  | jns_79 (rel : BitVec 8)
  /-- 7A: JP Jb (R385). -/
  | jp_7A (rel : BitVec 8)
  /-- 7B: JNP Jb (R386). -/
  | jnp_7B (rel : BitVec 8)
  /-- 7C: JL Jb (R387). -/
  | jl_7C (rel : BitVec 8)
  /-- 7D: JNL Jb (R388). -/
  | jnl_7D (rel : BitVec 8)
  /-- 7E: JLE Jb (R389). -/
  | jle_7E (rel : BitVec 8)
  /-- 7F: JNLE Jb (R390). -/
  | jnle_7F (rel : BitVec 8)
  /-- 80 /0: ADD Eb, Ib (R392). -/
  | add_80_0 (e : Rm) (imm : BitVec 8)
  /-- 80 /1: OR Eb, Ib (R393). -/
  | or_80_1 (e : Rm) (imm : BitVec 8)
  /-- 80 /2: ADC Eb, Ib (R394). -/
  | adc_80_2 (e : Rm) (imm : BitVec 8)
  /-- 80 /3: SBB Eb, Ib (R395). -/
  | sbb_80_3 (e : Rm) (imm : BitVec 8)
  /-- 80 /4: AND Eb, Ib (R396). -/
  | and_80_4 (e : Rm) (imm : BitVec 8)
  /-- 80 /5: SUB Eb, Ib (R397). -/
  | sub_80_5 (e : Rm) (imm : BitVec 8)
  /-- 80 /6: XOR Eb, Ib (R398). -/
  | xor_80_6 (e : Rm) (imm : BitVec 8)
  /-- 80 /7: CMP Eb, Ib (R399). -/
  | cmp_80_7 (e : Rm) (imm : BitVec 8)
  /-- 81 /0: ADD Ev, Iv (R401). -/
  | add_81_0 (e : Rm) (imm : Field)
  /-- 81 /1: OR Ev, Iv (R402). -/
  | or_81_1 (e : Rm) (imm : Field)
  /-- 81 /2: ADC Ev, Iv (R403). -/
  | adc_81_2 (e : Rm) (imm : Field)
  /-- 81 /3: SBB Ev, Iv (R404). -/
  | sbb_81_3 (e : Rm) (imm : Field)
  /-- 81 /4: AND Ev, Iv (R405). -/
  | and_81_4 (e : Rm) (imm : Field)
  /-- 81 /5: SUB Ev, Iv (R406). -/
  | sub_81_5 (e : Rm) (imm : Field)
  /-- 81 /6: XOR Ev, Iv (R407). -/
  | xor_81_6 (e : Rm) (imm : Field)
  /-- 81 /7: CMP Ev, Iv (R408). -/
  | cmp_81_7 (e : Rm) (imm : Field)
  /-- 82 /0: ADD Eb, Ib (R410). -/
  | add_82_0 (e : Rm) (imm : BitVec 8)
  /-- 82 /1: OR Eb, Ib (R411). -/
  | or_82_1 (e : Rm) (imm : BitVec 8)
  /-- 82 /2: ADC Eb, Ib (R412). -/
  | adc_82_2 (e : Rm) (imm : BitVec 8)
  /-- 82 /3: SBB Eb, Ib (R413). -/
  | sbb_82_3 (e : Rm) (imm : BitVec 8)
  /-- 82 /4: AND Eb, Ib (R414). -/
  | and_82_4 (e : Rm) (imm : BitVec 8)
  /-- 82 /5: SUB Eb, Ib (R415). -/
  | sub_82_5 (e : Rm) (imm : BitVec 8)
  /-- 82 /6: XOR Eb, Ib (R416). -/
  | xor_82_6 (e : Rm) (imm : BitVec 8)
  /-- 82 /7: CMP Eb, Ib (R417). -/
  | cmp_82_7 (e : Rm) (imm : BitVec 8)
  /-- 83 /0: ADD Ev, Ibs (R419). -/
  | add_83_0 (e : Rm) (imm : BitVec 8)
  /-- 83 /1: OR Ev, Ibs (R420). -/
  | or_83_1 (e : Rm) (imm : BitVec 8)
  /-- 83 /2: ADC Ev, Ibs (R421). -/
  | adc_83_2 (e : Rm) (imm : BitVec 8)
  /-- 83 /3: SBB Ev, Ibs (R422). -/
  | sbb_83_3 (e : Rm) (imm : BitVec 8)
  /-- 83 /4: AND Ev, Ibs (R423). -/
  | and_83_4 (e : Rm) (imm : BitVec 8)
  /-- 83 /5: SUB Ev, Ibs (R424). -/
  | sub_83_5 (e : Rm) (imm : BitVec 8)
  /-- 83 /6: XOR Ev, Ibs (R425). -/
  | xor_83_6 (e : Rm) (imm : BitVec 8)
  /-- 83 /7: CMP Ev, Ibs (R426). -/
  | cmp_83_7 (e : Rm) (imm : BitVec 8)
  /-- 84: TEST Eb, Gb (R427). -/
  | test_84 (reg : BitVec 3) (e : Rm)
  /-- 85: TEST Ev, Gv (R428). -/
  | test_85 (reg : BitVec 3) (e : Rm)
  /-- 86: XCHG Eb, Gb (R429). -/
  | xchg_86 (reg : BitVec 3) (e : Rm)
  /-- 87: XCHG Ev, Gv (R430). -/
  | xchg_87 (reg : BitVec 3) (e : Rm)
  /-- 88: MOV Eb, Gb (R431). -/
  | mov_88 (reg : BitVec 3) (e : Rm)
  /-- 89: MOV Ev, Gv (R432). -/
  | mov_89 (reg : BitVec 3) (e : Rm)
  /-- 8A: MOV Gb, Eb (R433). -/
  | mov_8A (reg : BitVec 3) (e : Rm)
  /-- 8B: MOV Gv, Ev (R434). -/
  | mov_8B (reg : BitVec 3) (e : Rm)
  /-- 8C: MOV Ew, Sw (R435). -/
  | mov_8C (reg : BitVec 3) (e : Rm)
  /-- 8D: LEA Gv, M (R436). -/
  | lea_8D (reg : BitVec 3) (e : Rm)
  /-- 8E: MOV Sw, Ew (R437). -/
  | mov_8E (reg : BitVec 3) (e : Rm)
  /-- 8F /0: POP Ev (R439). -/
  | pop_8F_0 (e : Rm)
  /-- 90: NOP (R440). -/
  | nop_90
  /-- 91: XCHG Zv, eAX (R441). -/
  | xchg_91
  /-- 92: XCHG Zv, eAX (R441). -/
  | xchg_92
  /-- 93: XCHG Zv, eAX (R441). -/
  | xchg_93
  /-- 94: XCHG Zv, eAX (R441). -/
  | xchg_94
  /-- 95: XCHG Zv, eAX (R441). -/
  | xchg_95
  /-- 96: XCHG Zv, eAX (R441). -/
  | xchg_96
  /-- 97: XCHG Zv, eAX (R441). -/
  | xchg_97
  /-- 98: CBW (R442). -/
  | cbw_98
  /-- 99: CWD (R443). -/
  | cwd_99
  /-- 9A: CALLF Iv, Iw (R444). -/
  | callf_9A (off : Field) (sel : BitVec 16)
  /-- 9B: WAIT (R445). -/
  | wait_9B
  /-- 9C: PUSHF (R446). -/
  | pushf_9C
  /-- 9D: POPF (R447). -/
  | popf_9D
  /-- 9E: SAHF (R448). -/
  | sahf_9E
  /-- 9F: LAHF (R449). -/
  | lahf_9F
  /-- A0: MOV AL, Ob (R450). -/
  | mov_A0 (off : Field)
  /-- A1: MOV eAX, Ov (R451). -/
  | mov_A1 (off : Field)
  /-- A2: MOV Ob, AL (R452). -/
  | mov_A2 (off : Field)
  /-- A3: MOV Ov, eAX (R453). -/
  | mov_A3 (off : Field)
  /-- A4: MOVSB Xb, Yb (R454). -/
  | movsb_A4
  /-- A5: MOVSW Xv, Yv (R455). -/
  | movsw_A5
  /-- A6: CMPSB Xb, Yb (R456). -/
  | cmpsb_A6
  /-- A7: CMPSW Xv, Yv (R457). -/
  | cmpsw_A7
  /-- A8: TEST AL, Ib (R458). -/
  | test_A8 (imm : BitVec 8)
  /-- A9: TEST eAX, Iv (R459). -/
  | test_A9 (imm : Field)
  /-- AA: STOSB Yb, AL (R460). -/
  | stosb_AA
  /-- AB: STOSW Yv, eAX (R461). -/
  | stosw_AB
  /-- AC: LODSB AL, Xb (R462). -/
  | lodsb_AC
  /-- AD: LODSW eAX, Xv (R463). -/
  | lodsw_AD
  /-- AE: SCASB AL, Yb (R464). -/
  | scasb_AE
  /-- AF: SCASW eAX, Yv (R465). -/
  | scasw_AF
  /-- B0+r: MOV Zb, Ib (R466). -/
  | mov_B0 (r : BitVec 3) (imm : BitVec 8)
  /-- B8+r: MOV Zv, Iv (R467). -/
  | mov_B8 (r : BitVec 3) (imm : Field)
  /-- C0 /0: ROL Eb, Ib (R469). -/
  | rol_C0_0 (e : Rm) (imm : BitVec 8)
  /-- C0 /1: ROR Eb, Ib (R470). -/
  | ror_C0_1 (e : Rm) (imm : BitVec 8)
  /-- C0 /2: RCL Eb, Ib (R471). -/
  | rcl_C0_2 (e : Rm) (imm : BitVec 8)
  /-- C0 /3: RCR Eb, Ib (R472). -/
  | rcr_C0_3 (e : Rm) (imm : BitVec 8)
  /-- C0 /4: SHL Eb, Ib (R473). -/
  | shl_C0_4 (e : Rm) (imm : BitVec 8)
  /-- C0 /5: SHR Eb, Ib (R474). -/
  | shr_C0_5 (e : Rm) (imm : BitVec 8)
  /-- C0 /7: SAR Eb, Ib (R475). -/
  | sar_C0_7 (e : Rm) (imm : BitVec 8)
  /-- C1 /0: ROL Ev, Ib (R477). -/
  | rol_C1_0 (e : Rm) (imm : BitVec 8)
  /-- C1 /1: ROR Ev, Ib (R478). -/
  | ror_C1_1 (e : Rm) (imm : BitVec 8)
  /-- C1 /2: RCL Ev, Ib (R479). -/
  | rcl_C1_2 (e : Rm) (imm : BitVec 8)
  /-- C1 /3: RCR Ev, Ib (R480). -/
  | rcr_C1_3 (e : Rm) (imm : BitVec 8)
  /-- C1 /4: SHL Ev, Ib (R481). -/
  | shl_C1_4 (e : Rm) (imm : BitVec 8)
  /-- C1 /5: SHR Ev, Ib (R482). -/
  | shr_C1_5 (e : Rm) (imm : BitVec 8)
  /-- C1 /7: SAR Ev, Ib (R483). -/
  | sar_C1_7 (e : Rm) (imm : BitVec 8)
  /-- C2: RET Iw (R484). -/
  | ret_C2 (imm : BitVec 16)
  /-- C3: RET (R485). -/
  | ret_C3
  /-- C4: LES Gv, Mp (R486). -/
  | les_C4 (reg : BitVec 3) (e : Rm)
  /-- C5: LDS Gv, Mp (R487). -/
  | lds_C5 (reg : BitVec 3) (e : Rm)
  /-- C6 /0: MOV Eb, Ib (R489). -/
  | mov_C6_0 (e : Rm) (imm : BitVec 8)
  /-- C7 /0: MOV Ev, Iv (R491). -/
  | mov_C7_0 (e : Rm) (imm : Field)
  /-- C8: ENTER Iw, Ib (R492). -/
  | enter_C8 (size : BitVec 16) (level : BitVec 8)
  /-- C9: LEAVE (R493). -/
  | leave_C9
  /-- CA: RETF Iw (R494). -/
  | retf_CA (imm : BitVec 16)
  /-- CB: RETF (R495). -/
  | retf_CB
  /-- CC: INT3 (R496). -/
  | int3_CC
  /-- CD: INT Ib (R497). -/
  | int_CD (imm : BitVec 8)
  /-- CE: INTO (R498). -/
  | into_CE
  /-- CF: IRET (R499). -/
  | iret_CF
  /-- D0 /0: ROL Eb, 1 (R501). -/
  | rol_D0_0 (e : Rm)
  /-- D0 /1: ROR Eb, 1 (R502). -/
  | ror_D0_1 (e : Rm)
  /-- D0 /2: RCL Eb, 1 (R503). -/
  | rcl_D0_2 (e : Rm)
  /-- D0 /3: RCR Eb, 1 (R504). -/
  | rcr_D0_3 (e : Rm)
  /-- D0 /4: SHL Eb, 1 (R505). -/
  | shl_D0_4 (e : Rm)
  /-- D0 /5: SHR Eb, 1 (R506). -/
  | shr_D0_5 (e : Rm)
  /-- D0 /7: SAR Eb, 1 (R507). -/
  | sar_D0_7 (e : Rm)
  /-- D1 /0: ROL Ev, 1 (R509). -/
  | rol_D1_0 (e : Rm)
  /-- D1 /1: ROR Ev, 1 (R510). -/
  | ror_D1_1 (e : Rm)
  /-- D1 /2: RCL Ev, 1 (R511). -/
  | rcl_D1_2 (e : Rm)
  /-- D1 /3: RCR Ev, 1 (R512). -/
  | rcr_D1_3 (e : Rm)
  /-- D1 /4: SHL Ev, 1 (R513). -/
  | shl_D1_4 (e : Rm)
  /-- D1 /5: SHR Ev, 1 (R514). -/
  | shr_D1_5 (e : Rm)
  /-- D1 /7: SAR Ev, 1 (R515). -/
  | sar_D1_7 (e : Rm)
  /-- D2 /0: ROL Eb, CL (R517). -/
  | rol_D2_0 (e : Rm)
  /-- D2 /1: ROR Eb, CL (R518). -/
  | ror_D2_1 (e : Rm)
  /-- D2 /2: RCL Eb, CL (R519). -/
  | rcl_D2_2 (e : Rm)
  /-- D2 /3: RCR Eb, CL (R520). -/
  | rcr_D2_3 (e : Rm)
  /-- D2 /4: SHL Eb, CL (R521). -/
  | shl_D2_4 (e : Rm)
  /-- D2 /5: SHR Eb, CL (R522). -/
  | shr_D2_5 (e : Rm)
  /-- D2 /7: SAR Eb, CL (R523). -/
  | sar_D2_7 (e : Rm)
  /-- D3 /0: ROL Ev, CL (R525). -/
  | rol_D3_0 (e : Rm)
  /-- D3 /1: ROR Ev, CL (R526). -/
  | ror_D3_1 (e : Rm)
  /-- D3 /2: RCL Ev, CL (R527). -/
  | rcl_D3_2 (e : Rm)
  /-- D3 /3: RCR Ev, CL (R528). -/
  | rcr_D3_3 (e : Rm)
  /-- D3 /4: SHL Ev, CL (R529). -/
  | shl_D3_4 (e : Rm)
  /-- D3 /5: SHR Ev, CL (R530). -/
  | shr_D3_5 (e : Rm)
  /-- D3 /7: SAR Ev, CL (R531). -/
  | sar_D3_7 (e : Rm)
  /-- D4: AAM Ib (R532). -/
  | aam_D4 (imm : BitVec 8)
  /-- D5: AAD Ib (R533). -/
  | aad_D5 (imm : BitVec 8)
  /-- D7: XLAT (R534). -/
  | xlat_D7
  /-- D8+r: ESC Fpu (R535). -/
  | esc_D8 (r : BitVec 3)
  /-- E0: LOOPNE Jb (R536). -/
  | loopne_E0 (rel : BitVec 8)
  /-- E1: LOOPE Jb (R537). -/
  | loope_E1 (rel : BitVec 8)
  /-- E2: LOOP Jb (R538). -/
  | loop_E2 (rel : BitVec 8)
  /-- E3: JCXZ Jb (R539). -/
  | jcxz_E3 (rel : BitVec 8)
  /-- E4: IN AL, Ib (R540). -/
  | in_E4 (imm : BitVec 8)
  /-- E5: IN eAX, Ib (R541). -/
  | in_E5 (imm : BitVec 8)
  /-- E6: OUT Ib, AL (R542). -/
  | out_E6 (imm : BitVec 8)
  /-- E7: OUT Ib, eAX (R543). -/
  | out_E7 (imm : BitVec 8)
  /-- E8: CALL Jv (R544). -/
  | call_E8 (rel : Field)
  /-- E9: JMP Jv (R545). -/
  | jmp_E9 (rel : Field)
  /-- EA: JMPF Iv, Iw (R546). -/
  | jmpf_EA (off : Field) (sel : BitVec 16)
  /-- EB: JMP Jb (R547). -/
  | jmp_EB (rel : BitVec 8)
  /-- EC: IN AL, DX (R548). -/
  | in_EC
  /-- ED: IN eAX, DX (R549). -/
  | in_ED
  /-- EE: OUT DX, AL (R550). -/
  | out_EE
  /-- EF: OUT DX, eAX (R551). -/
  | out_EF
  /-- F4: HLT (R552). -/
  | hlt_F4
  /-- F5: CMC (R553). -/
  | cmc_F5
  /-- F6 /0: TEST Eb, Ib (R555). -/
  | test_F6_0 (e : Rm) (imm : BitVec 8)
  /-- F6 /2: NOT Eb (R556). -/
  | not_F6_2 (e : Rm)
  /-- F6 /3: NEG Eb (R557). -/
  | neg_F6_3 (e : Rm)
  /-- F6 /4: MUL Eb (R558). -/
  | mul_F6_4 (e : Rm)
  /-- F6 /5: IMUL Eb (R559). -/
  | imul_F6_5 (e : Rm)
  /-- F6 /6: DIV Eb (R560). -/
  | div_F6_6 (e : Rm)
  /-- F6 /7: IDIV Eb (R561). -/
  | idiv_F6_7 (e : Rm)
  /-- F7 /0: TEST Ev, Iv (R563). -/
  | test_F7_0 (e : Rm) (imm : Field)
  /-- F7 /2: NOT Ev (R564). -/
  | not_F7_2 (e : Rm)
  /-- F7 /3: NEG Ev (R565). -/
  | neg_F7_3 (e : Rm)
  /-- F7 /4: MUL Ev (R566). -/
  | mul_F7_4 (e : Rm)
  /-- F7 /5: IMUL Ev (R567). -/
  | imul_F7_5 (e : Rm)
  /-- F7 /6: DIV Ev (R568). -/
  | div_F7_6 (e : Rm)
  /-- F7 /7: IDIV Ev (R569). -/
  | idiv_F7_7 (e : Rm)
  /-- F8: CLC (R570). -/
  | clc_F8
  /-- F9: STC (R571). -/
  | stc_F9
  /-- FA: CLI (R572). -/
  | cli_FA
  /-- FB: STI (R573). -/
  | sti_FB
  /-- FC: CLD (R574). -/
  | cld_FC
  /-- FD: STD (R575). -/
  | std_FD
  /-- FE /0: INC Eb (R577). -/
  | inc_FE_0 (e : Rm)
  /-- FE /1: DEC Eb (R578). -/
  | dec_FE_1 (e : Rm)
  /-- FF /0: INC Ev (R580). -/
  | inc_FF_0 (e : Rm)
  /-- FF /1: DEC Ev (R581). -/
  | dec_FF_1 (e : Rm)
  /-- FF /2: CALL Ev (R582). -/
  | call_FF_2 (e : Rm)
  /-- FF /3: CALLF Mp (R583). -/
  | callf_FF_3 (e : Rm)
  /-- FF /4: JMP Ev (R584). -/
  | jmp_FF_4 (e : Rm)
  /-- FF /5: JMPF Mp (R585). -/
  | jmpf_FF_5 (e : Rm)
  /-- FF /6: PUSH Ev (R586). -/
  | push_FF_6 (e : Rm)
  /-- 0F 00 /0: SLDT Ew (R588). -/
  | sldt_0F00_0 (e : Rm)
  /-- 0F 00 /1: STR Ew (R589). -/
  | str_0F00_1 (e : Rm)
  /-- 0F 00 /2: LLDT Ew (R590). -/
  | lldt_0F00_2 (e : Rm)
  /-- 0F 00 /3: LTR Ew (R591). -/
  | ltr_0F00_3 (e : Rm)
  /-- 0F 00 /4: VERR Ew (R592). -/
  | verr_0F00_4 (e : Rm)
  /-- 0F 00 /5: VERW Ew (R593). -/
  | verw_0F00_5 (e : Rm)
  /-- 0F 01 /0: SGDT Ms (R595). -/
  | sgdt_0F01_0 (e : Rm)
  /-- 0F 01 /1: SIDT Ms (R596). -/
  | sidt_0F01_1 (e : Rm)
  /-- 0F 01 /2: LGDT Ms (R597). -/
  | lgdt_0F01_2 (e : Rm)
  /-- 0F 01 /3: LIDT Ms (R598). -/
  | lidt_0F01_3 (e : Rm)
  /-- 0F 01 /4: SMSW Ew (R599). -/
  | smsw_0F01_4 (e : Rm)
  /-- 0F 01 /6: LMSW Ew (R600). -/
  | lmsw_0F01_6 (e : Rm)
  /-- 0F 02: LAR Gv, Ew (R601). -/
  | lar_0F02 (reg : BitVec 3) (e : Rm)
  /-- 0F 03: LSL Gv, Ew (R602). -/
  | lsl_0F03 (reg : BitVec 3) (e : Rm)
  /-- 0F 06: CLTS (R603). -/
  | clts_0F06
  /-- 0F 20: MOV Rd, Cd (R604). -/
  | mov_0F20 (mod : BitVec 2) (reg : BitVec 3) (rm : BitVec 3)
  /-- 0F 21: MOV Rd, Dd (R605). -/
  | mov_0F21 (mod : BitVec 2) (reg : BitVec 3) (rm : BitVec 3)
  /-- 0F 22: MOV Cd, Rd (R606). -/
  | mov_0F22 (mod : BitVec 2) (reg : BitVec 3) (rm : BitVec 3)
  /-- 0F 23: MOV Dd, Rd (R607). -/
  | mov_0F23 (mod : BitVec 2) (reg : BitVec 3) (rm : BitVec 3)
  /-- 0F 24: MOV Rd, Td (R608). -/
  | mov_0F24 (mod : BitVec 2) (reg : BitVec 3) (rm : BitVec 3)
  /-- 0F 26: MOV Td, Rd (R609). -/
  | mov_0F26 (mod : BitVec 2) (reg : BitVec 3) (rm : BitVec 3)
  /-- 0F 80: JO Jv (R610). -/
  | jo_0F80 (rel : Field)
  /-- 0F 81: JNO Jv (R611). -/
  | jno_0F81 (rel : Field)
  /-- 0F 82: JB Jv (R612). -/
  | jb_0F82 (rel : Field)
  /-- 0F 83: JNB Jv (R613). -/
  | jnb_0F83 (rel : Field)
  /-- 0F 84: JZ Jv (R614). -/
  | jz_0F84 (rel : Field)
  /-- 0F 85: JNZ Jv (R615). -/
  | jnz_0F85 (rel : Field)
  /-- 0F 86: JBE Jv (R616). -/
  | jbe_0F86 (rel : Field)
  /-- 0F 87: JNBE Jv (R617). -/
  | jnbe_0F87 (rel : Field)
  /-- 0F 88: JS Jv (R618). -/
  | js_0F88 (rel : Field)
  /-- 0F 89: JNS Jv (R619). -/
  | jns_0F89 (rel : Field)
  /-- 0F 8A: JP Jv (R620). -/
  | jp_0F8A (rel : Field)
  /-- 0F 8B: JNP Jv (R621). -/
  | jnp_0F8B (rel : Field)
  /-- 0F 8C: JL Jv (R622). -/
  | jl_0F8C (rel : Field)
  /-- 0F 8D: JNL Jv (R623). -/
  | jnl_0F8D (rel : Field)
  /-- 0F 8E: JLE Jv (R624). -/
  | jle_0F8E (rel : Field)
  /-- 0F 8F: JNLE Jv (R625). -/
  | jnle_0F8F (rel : Field)
  /-- 0F 90: SETO Eb (R626). -/
  | seto_0F90 (reg : BitVec 3) (e : Rm)
  /-- 0F 91: SETNO Eb (R627). -/
  | setno_0F91 (reg : BitVec 3) (e : Rm)
  /-- 0F 92: SETB Eb (R628). -/
  | setb_0F92 (reg : BitVec 3) (e : Rm)
  /-- 0F 93: SETNB Eb (R629). -/
  | setnb_0F93 (reg : BitVec 3) (e : Rm)
  /-- 0F 94: SETZ Eb (R630). -/
  | setz_0F94 (reg : BitVec 3) (e : Rm)
  /-- 0F 95: SETNZ Eb (R631). -/
  | setnz_0F95 (reg : BitVec 3) (e : Rm)
  /-- 0F 96: SETBE Eb (R632). -/
  | setbe_0F96 (reg : BitVec 3) (e : Rm)
  /-- 0F 97: SETNBE Eb (R633). -/
  | setnbe_0F97 (reg : BitVec 3) (e : Rm)
  /-- 0F 98: SETS Eb (R634). -/
  | sets_0F98 (reg : BitVec 3) (e : Rm)
  /-- 0F 99: SETNS Eb (R635). -/
  | setns_0F99 (reg : BitVec 3) (e : Rm)
  /-- 0F 9A: SETP Eb (R636). -/
  | setp_0F9A (reg : BitVec 3) (e : Rm)
  /-- 0F 9B: SETNP Eb (R637). -/
  | setnp_0F9B (reg : BitVec 3) (e : Rm)
  /-- 0F 9C: SETL Eb (R638). -/
  | setl_0F9C (reg : BitVec 3) (e : Rm)
  /-- 0F 9D: SETNL Eb (R639). -/
  | setnl_0F9D (reg : BitVec 3) (e : Rm)
  /-- 0F 9E: SETLE Eb (R640). -/
  | setle_0F9E (reg : BitVec 3) (e : Rm)
  /-- 0F 9F: SETNLE Eb (R641). -/
  | setnle_0F9F (reg : BitVec 3) (e : Rm)
  /-- 0F A0: PUSH FS (R642). -/
  | push_0FA0
  /-- 0F A1: POP FS (R643). -/
  | pop_0FA1
  /-- 0F A3: BT Ev, Gv (R644). -/
  | bt_0FA3 (reg : BitVec 3) (e : Rm)
  /-- 0F A4: SHLD Ev, Gv, Ib (R645). -/
  | shld_0FA4 (reg : BitVec 3) (e : Rm) (imm : BitVec 8)
  /-- 0F A5: SHLD Ev, Gv, CL (R646). -/
  | shld_0FA5 (reg : BitVec 3) (e : Rm)
  /-- 0F A8: PUSH GS (R647). -/
  | push_0FA8
  /-- 0F A9: POP GS (R648). -/
  | pop_0FA9
  /-- 0F AB: BTS Ev, Gv (R649). -/
  | bts_0FAB (reg : BitVec 3) (e : Rm)
  /-- 0F AC: SHRD Ev, Gv, Ib (R650). -/
  | shrd_0FAC (reg : BitVec 3) (e : Rm) (imm : BitVec 8)
  /-- 0F AD: SHRD Ev, Gv, CL (R651). -/
  | shrd_0FAD (reg : BitVec 3) (e : Rm)
  /-- 0F AF: IMUL Gv, Ev (R652). -/
  | imul_0FAF (reg : BitVec 3) (e : Rm)
  /-- 0F B2: LSS Gv, Mp (R653). -/
  | lss_0FB2 (reg : BitVec 3) (e : Rm)
  /-- 0F B3: BTR Ev, Gv (R654). -/
  | btr_0FB3 (reg : BitVec 3) (e : Rm)
  /-- 0F B4: LFS Gv, Mp (R655). -/
  | lfs_0FB4 (reg : BitVec 3) (e : Rm)
  /-- 0F B5: LGS Gv, Mp (R656). -/
  | lgs_0FB5 (reg : BitVec 3) (e : Rm)
  /-- 0F B6: MOVZX Gv, Eb (R657). -/
  | movzx_0FB6 (reg : BitVec 3) (e : Rm)
  /-- 0F B7: MOVZX Gv, Ew (R658). -/
  | movzx_0FB7 (reg : BitVec 3) (e : Rm)
  /-- 0F BA /4: BT Ev, Ib (R660). -/
  | bt_0FBA_4 (e : Rm) (imm : BitVec 8)
  /-- 0F BA /5: BTS Ev, Ib (R661). -/
  | bts_0FBA_5 (e : Rm) (imm : BitVec 8)
  /-- 0F BA /6: BTR Ev, Ib (R662). -/
  | btr_0FBA_6 (e : Rm) (imm : BitVec 8)
  /-- 0F BA /7: BTC Ev, Ib (R663). -/
  | btc_0FBA_7 (e : Rm) (imm : BitVec 8)
  /-- 0F BB: BTC Ev, Gv (R664). -/
  | btc_0FBB (reg : BitVec 3) (e : Rm)
  /-- 0F BC: BSF Gv, Ev (R665). -/
  | bsf_0FBC (reg : BitVec 3) (e : Rm)
  /-- 0F BD: BSR Gv, Ev (R666). -/
  | bsr_0FBD (reg : BitVec 3) (e : Rm)
  /-- 0F BE: MOVSX Gv, Eb (R667). -/
  | movsx_0FBE (reg : BitVec 3) (e : Rm)
  /-- 0F BF: MOVSX Gv, Ew (R668). -/
  | movsx_0FBF (reg : BitVec 3) (e : Rm)
  /-- unassigned one-byte opcode (R669). -/
  | unassignedOneByte (b : Byte)
  /-- unassigned two-byte opcode (R670). -/
  | unassignedTwoByte (b : Byte)
deriving DecidableEq, Repr

end Sys2Proof
end

