-- ==== Sys2Proof/Config.lean ====
section
/-!
DEFINITION. The implementation parameters of 00_scope.md R4. They are arguments of the model: State
carries a `Params`, nothing in the machine writes it, and a statement over every state is a statement
over every value of the parameters. The default opcode table is Machine/Table.lean.
-/

namespace Sys2Proof

/-- The parameters of R4 that are not fixed by the spec: `OPCODE_TABLE` and `MAX_INSTR_LEN`
(`REGISTER_TABLE` is fixed, and `is32` is an input of every request). -/
structure Params where
  opcodeTable : OpcodeTable
  maxInstrLen : Option Nat
deriving DecidableEq, Repr

/-- The default of `MAX_INSTR_LEN`: no limit (R4). -/
def Config.maxInstrLen : Option Nat := none

end Sys2Proof
end

