-- ==== Sys2Proof/Machine/Layout.lean ====
section
/-!
DEFINITION. How the fields of an instruction lie in its bytes: the bit positions of ModRM and SIB
(30_encoding.md R94, R95), little-endian fields (20_memory.md R72), displacement sizes (R96 to R98)
and trailing field sizes (R124). Shared by WellFormed, the decoder and the encoder.
-/

namespace Sys2Proof

/-! ## ModRM and SIB bytes -/

/-- `mod = m[7:6]`, `reg = m[5:3]`, `rm = m[2:0]` (R94). -/
def ModRM.ofByte (m : Byte) : ModRM :=
  ⟨m.extractLsb' 6 2, m.extractLsb' 3 3, m.extractLsb' 0 3⟩

/-- The ModRM byte with those fields (R94). -/
def ModRM.toByte (m : ModRM) : Byte := m.mod ++ m.reg ++ m.rm

/-- `ss = s[7:6]`, `index = s[5:3]`, `base = s[2:0]` (R95). -/
def Sib.ofByte (s : Byte) : Sib :=
  ⟨s.extractLsb' 6 2, s.extractLsb' 3 3, s.extractLsb' 0 3⟩

/-- The SIB byte with those fields (R95). -/
def Sib.toByte (s : Sib) : Byte := s.ss ++ s.index ++ s.base

/-! ## Multi-byte fields, little-endian (R72) -/

/-- The bytes of a field in stream order, the least significant first. -/
def Field.bytes : Field → List Byte
  | .absent => []
  | .f8 v => [v]
  | .f16 v => [v.extractLsb' 0 8, v.extractLsb' 8 8]
  | .f32 v => [v.extractLsb' 0 8, v.extractLsb' 8 8, v.extractLsb' 16 8, v.extractLsb' 24 8]

/-- Reads a field of `n` bytes and gives the bytes after it; `none` when fewer than `n` are left
(20_memory.md R75: a field is read whole or not at all). Only the sizes 0, 1, 2 and 4 exist (R9). -/
def takeField : Nat → List Byte → Option (Field × List Byte)
  | 0, bs => some (.absent, bs)
  | 1, b0 :: bs => some (.f8 b0, bs)
  | 2, b0 :: b1 :: bs => some (.f16 (b1 ++ b0), bs)
  | 4, b0 :: b1 :: b2 :: b3 :: bs => some (.f32 (b3 ++ b2 ++ b1 ++ b0), bs)
  | _, _ => none

/-- The unsigned little-endian value of a field: the result of `MemRead` (00_scope.md R12). -/
def Field.value : Field → Nat
  | .absent => 0
  | .f8 v => v.toNat
  | .f16 v => v.toNat
  | .f32 v => v.toNat

/-! ## Displacement sizes (R96 to R98, R185 to R187) -/

/-- 16-bit addressing, mod not 11 (R96, R185). -/
def dispSize16 (mod : BitVec 2) (rm : BitVec 3) : Nat :=
  if mod = 0#2 ∧ rm = 6#3 then 2 else if mod = 0#2 then 0 else if mod = 1#2 then 1 else 2

/-- 32-bit addressing, mod not 11: `base` is the rm field without a SIB byte and the SIB base field
with one (R97, R98, R186, R187). -/
def dispSize32 (mod : BitVec 2) (base : BitVec 3) : Nat :=
  if mod = 0#2 ∧ base = 5#3 then 4 else if mod = 0#2 then 0 else if mod = 1#2 then 1 else 4

/-- Does a SIB byte follow the ModRM byte, mod not 11? (R90, R97) -/
def sibFollows (asz : Width) (rm : BitVec 3) : Bool := asz = .s32 && rm = 4#3

/-- The reg field of an S-class operand names one of the six segment registers (R198). -/
def namesSegment (reg : BitVec 3) : Bool := reg.toNat < 6

/-! ## What a list of specs reads (R121, R124, R183, R184) -/

/-- Does the method read the ModRM byte? (R121) -/
def Spec.readsModRM : Spec → Bool
  | .E _ | .M _ | .G _ | .R _ | .S _ | .C _ | .D _ | .T _ => true
  | .O _ | .I _ | .J _ | .one | .fixed _ | .Z _ | .X _ | .Y _ | .fpu => false

/-- Does the method read the memory part of the ModRM block? (R184) -/
def Spec.readsMem : Spec → Bool
  | .E _ | .M _ => true
  | .G _ | .R _ | .S _ | .C _ | .D _ | .T _ | .O _ | .I _ | .J _ | .one | .fixed _ | .Z _ | .X _
  | .Y _ | .fpu => false

/-- Does the method read the ModRM reg field? (R168) -/
def Spec.readsReg : Spec → Bool
  | .G _ | .S _ | .C _ | .D _ | .T _ => true
  | .E _ | .M _ | .R _ | .O _ | .I _ | .J _ | .one | .fixed _ | .Z _ | .X _ | .Y _ | .fpu => false

/-- Is the method S? (R198) -/
def Spec.isS : Spec → Bool
  | .S _ => true
  | .E _ | .M _ | .G _ | .R _ | .C _ | .D _ | .T _ | .O _ | .I _ | .J _ | .one | .fixed _ | .Z _
  | .X _ | .Y _ | .fpu => false

/-- Is the method R? (R197) -/
def Spec.isR : Spec → Bool
  | .R _ => true
  | .E _ | .M _ | .G _ | .S _ | .C _ | .D _ | .T _ | .O _ | .I _ | .J _ | .one | .fixed _ | .Z _
  | .X _ | .Y _ | .fpu => false

/-- Is the method Fpu? (R165, R213) -/
def Spec.isFpu : Spec → Bool
  | .fpu => true
  | .E _ | .M _ | .G _ | .R _ | .S _ | .C _ | .D _ | .T _ | .O _ | .I _ | .J _ | .one | .fixed _
  | .Z _ | .X _ | .Y _ => false

/-- The size of an immediate or relative field by its type (R124, R201, R203). R124 gives no size for
the types `d`, `p`, `a` and `s`; no row of the default table has such a field (DEDUCED, unsafe: log entry 6). -/
def immSize (osz : Width) : OpType → Nat
  | .b | .bs => 1
  | .w => 2
  | .d => 4
  | .v | .p | .a | .s => osz.bytes

/-- The trailing field a spec reads: its size and the name a failure gives it (R124, R902). -/
def Spec.trailing? (a : Attrs) : Spec → Option (Nat × FailField)
  | .O _ => some (a.asz.bytes, .offset)
  | .I t | .J t => some (immSize a.osz t, .immediate)
  | .E _ | .M _ | .G _ | .R _ | .S _ | .C _ | .D _ | .T _ | .one | .fixed _ | .Z _ | .X _ | .Y _
  | .fpu => none

/-! ## The bytes of an instruction's fields -/

/-- The ModRM block and the trailing fields as bytes, in the order of R90. -/
def Fields.bytes (f : Fields) : List Byte :=
  (f.modrm.map ModRM.toByte).toList ++ (f.sib.map Sib.toByte).toList ++ f.disp.bytes
    ++ f.trailing.flatMap Field.bytes

/-- How many bytes that is: the `B + T` of 43_decoder.md R244. -/
def Fields.size (f : Fields) : Nat :=
  f.modrm.toList.length + f.sib.toList.length + f.disp.size + (f.trailing.map Field.size).sum

/-- The bytes of a key: the offending bytes of a failed lookup (R901). -/
def Key.bytes : Key → List Byte
  | .one b => [b]
  | .two b => [0x0F#8, b]

/-- The map a key belongs to. -/
def Key.opMap : Key → OpMap
  | .one _ => .oneByte
  | .two _ => .twoByte

/-- The opcode byte of a `+r` row: the register number in its low three bits (R10, R207). -/
def opcodeReg (base : Byte) (r : BitVec 3) : Byte := base ||| r.setWidth 8

/-- The last opcode byte, whose low three bits a Z operand reads (R207). -/
def Key.last : Key → Byte
  | .one b => b
  | .two b => b

end Sys2Proof
end

