-- ==== Sys2Proof/Machine/Table.lean ====
section
/-!
DEFINITION. The default OPCODE_TABLE (00_scope.md R4): the entries of 44_onebyte_00_5F.md to
49_twobyte_0F.md, in key order, one list for each sixteen keys. A `+r` row of the spec stands at each
of its eight keys; a group stands at its key with its eight slots, `none` where the spec says empty.
-/

namespace Sys2Proof

/-- 00 to 0F. -/
def tableOne0 : OpcodeTable :=
  [(.one 0x00#8, .desc (opcode "ADD" [.E .b, .G .b])),
   (.one 0x01#8, .desc (opcode "ADD" [.E .v, .G .v])),
   (.one 0x02#8, .desc (opcode "ADD" [.G .b, .E .b])),
   (.one 0x03#8, .desc (opcode "ADD" [.G .v, .E .v])),
   (.one 0x04#8, .desc (opcode "ADD" [.fixed .al, .I .b])),
   (.one 0x05#8, .desc (opcode "ADD" [.fixed .eAX, .I .v])),
   (.one 0x06#8, .desc (opcode "PUSH" [.fixed (.seg .es)])),
   (.one 0x07#8, .desc (opcode "POP" [.fixed (.seg .es)])),
   (.one 0x08#8, .desc (opcode "OR" [.E .b, .G .b])),
   (.one 0x09#8, .desc (opcode "OR" [.E .v, .G .v])),
   (.one 0x0A#8, .desc (opcode "OR" [.G .b, .E .b])),
   (.one 0x0B#8, .desc (opcode "OR" [.G .v, .E .v])),
   (.one 0x0C#8, .desc (opcode "OR" [.fixed .al, .I .b])),
   (.one 0x0D#8, .desc (opcode "OR" [.fixed .eAX, .I .v])),
   (.one 0x0E#8, .desc (opcode "PUSH" [.fixed (.seg .cs)]))]

/-- 10 to 1F. -/
def tableOne1 : OpcodeTable :=
  [(.one 0x10#8, .desc (opcode "ADC" [.E .b, .G .b])),
   (.one 0x11#8, .desc (opcode "ADC" [.E .v, .G .v])),
   (.one 0x12#8, .desc (opcode "ADC" [.G .b, .E .b])),
   (.one 0x13#8, .desc (opcode "ADC" [.G .v, .E .v])),
   (.one 0x14#8, .desc (opcode "ADC" [.fixed .al, .I .b])),
   (.one 0x15#8, .desc (opcode "ADC" [.fixed .eAX, .I .v])),
   (.one 0x16#8, .desc (opcode "PUSH" [.fixed (.seg .ss)])),
   (.one 0x17#8, .desc (opcode "POP" [.fixed (.seg .ss)])),
   (.one 0x18#8, .desc (opcode "SBB" [.E .b, .G .b])),
   (.one 0x19#8, .desc (opcode "SBB" [.E .v, .G .v])),
   (.one 0x1A#8, .desc (opcode "SBB" [.G .b, .E .b])),
   (.one 0x1B#8, .desc (opcode "SBB" [.G .v, .E .v])),
   (.one 0x1C#8, .desc (opcode "SBB" [.fixed .al, .I .b])),
   (.one 0x1D#8, .desc (opcode "SBB" [.fixed .eAX, .I .v])),
   (.one 0x1E#8, .desc (opcode "PUSH" [.fixed (.seg .ds)])),
   (.one 0x1F#8, .desc (opcode "POP" [.fixed (.seg .ds)]))]

/-- 20 to 2F. -/
def tableOne2 : OpcodeTable :=
  [(.one 0x20#8, .desc (opcode "AND" [.E .b, .G .b])),
   (.one 0x21#8, .desc (opcode "AND" [.E .v, .G .v])),
   (.one 0x22#8, .desc (opcode "AND" [.G .b, .E .b])),
   (.one 0x23#8, .desc (opcode "AND" [.G .v, .E .v])),
   (.one 0x24#8, .desc (opcode "AND" [.fixed .al, .I .b])),
   (.one 0x25#8, .desc (opcode "AND" [.fixed .eAX, .I .v])),
   (.one 0x27#8, .desc (opcode "DAA" [])),
   (.one 0x28#8, .desc (opcode "SUB" [.E .b, .G .b])),
   (.one 0x29#8, .desc (opcode "SUB" [.E .v, .G .v])),
   (.one 0x2A#8, .desc (opcode "SUB" [.G .b, .E .b])),
   (.one 0x2B#8, .desc (opcode "SUB" [.G .v, .E .v])),
   (.one 0x2C#8, .desc (opcode "SUB" [.fixed .al, .I .b])),
   (.one 0x2D#8, .desc (opcode "SUB" [.fixed .eAX, .I .v])),
   (.one 0x2F#8, .desc (opcode "DAS" []))]

/-- 30 to 3F. -/
def tableOne3 : OpcodeTable :=
  [(.one 0x30#8, .desc (opcode "XOR" [.E .b, .G .b])),
   (.one 0x31#8, .desc (opcode "XOR" [.E .v, .G .v])),
   (.one 0x32#8, .desc (opcode "XOR" [.G .b, .E .b])),
   (.one 0x33#8, .desc (opcode "XOR" [.G .v, .E .v])),
   (.one 0x34#8, .desc (opcode "XOR" [.fixed .al, .I .b])),
   (.one 0x35#8, .desc (opcode "XOR" [.fixed .eAX, .I .v])),
   (.one 0x37#8, .desc (opcode "AAA" [])),
   (.one 0x38#8, .desc (opcode "CMP" [.E .b, .G .b])),
   (.one 0x39#8, .desc (opcode "CMP" [.E .v, .G .v])),
   (.one 0x3A#8, .desc (opcode "CMP" [.G .b, .E .b])),
   (.one 0x3B#8, .desc (opcode "CMP" [.G .v, .E .v])),
   (.one 0x3C#8, .desc (opcode "CMP" [.fixed .al, .I .b])),
   (.one 0x3D#8, .desc (opcode "CMP" [.fixed .eAX, .I .v])),
   (.one 0x3F#8, .desc (opcode "AAS" []))]

/-- 40 to 4F. -/
def tableOne4 : OpcodeTable :=
  [(.one 0x40#8, .desc (opcode "INC" [.Z .v])),
   (.one 0x41#8, .desc (opcode "INC" [.Z .v])),
   (.one 0x42#8, .desc (opcode "INC" [.Z .v])),
   (.one 0x43#8, .desc (opcode "INC" [.Z .v])),
   (.one 0x44#8, .desc (opcode "INC" [.Z .v])),
   (.one 0x45#8, .desc (opcode "INC" [.Z .v])),
   (.one 0x46#8, .desc (opcode "INC" [.Z .v])),
   (.one 0x47#8, .desc (opcode "INC" [.Z .v])),
   (.one 0x48#8, .desc (opcode "DEC" [.Z .v])),
   (.one 0x49#8, .desc (opcode "DEC" [.Z .v])),
   (.one 0x4A#8, .desc (opcode "DEC" [.Z .v])),
   (.one 0x4B#8, .desc (opcode "DEC" [.Z .v])),
   (.one 0x4C#8, .desc (opcode "DEC" [.Z .v])),
   (.one 0x4D#8, .desc (opcode "DEC" [.Z .v])),
   (.one 0x4E#8, .desc (opcode "DEC" [.Z .v])),
   (.one 0x4F#8, .desc (opcode "DEC" [.Z .v]))]

/-- 50 to 5F. -/
def tableOne5 : OpcodeTable :=
  [(.one 0x50#8, .desc (opcode "PUSH" [.Z .v])),
   (.one 0x51#8, .desc (opcode "PUSH" [.Z .v])),
   (.one 0x52#8, .desc (opcode "PUSH" [.Z .v])),
   (.one 0x53#8, .desc (opcode "PUSH" [.Z .v])),
   (.one 0x54#8, .desc (opcode "PUSH" [.Z .v])),
   (.one 0x55#8, .desc (opcode "PUSH" [.Z .v])),
   (.one 0x56#8, .desc (opcode "PUSH" [.Z .v])),
   (.one 0x57#8, .desc (opcode "PUSH" [.Z .v])),
   (.one 0x58#8, .desc (opcode "POP" [.Z .v])),
   (.one 0x59#8, .desc (opcode "POP" [.Z .v])),
   (.one 0x5A#8, .desc (opcode "POP" [.Z .v])),
   (.one 0x5B#8, .desc (opcode "POP" [.Z .v])),
   (.one 0x5C#8, .desc (opcode "POP" [.Z .v])),
   (.one 0x5D#8, .desc (opcode "POP" [.Z .v])),
   (.one 0x5E#8, .desc (opcode "POP" [.Z .v])),
   (.one 0x5F#8, .desc (opcode "POP" [.Z .v]))]

/-- 60 to 6F. -/
def tableOne6 : OpcodeTable :=
  [(.one 0x60#8, .desc (opcode "PUSHA" [])),
   (.one 0x61#8, .desc (opcode "POPA" [])),
   (.one 0x62#8, .desc (opcode "BOUND" [.G .v, .M (some .a)])),
   (.one 0x63#8, .desc (opcode "ARPL" [.E .w, .G .w])),
   (.one 0x68#8, .desc (opcode "PUSH" [.I .v])),
   (.one 0x69#8, .desc (opcode "IMUL" [.G .v, .E .v, .I .v])),
   (.one 0x6A#8, .desc (opcode "PUSH" [.I .bs])),
   (.one 0x6B#8, .desc (opcode "IMUL" [.G .v, .E .v, .I .bs])),
   (.one 0x6C#8, .desc (opcode "INSB" [.Y .b, .fixed .dx])),
   (.one 0x6D#8, .desc (opcode "INSW" [.Y .v, .fixed .dx])),
   (.one 0x6E#8, .desc (opcode "OUTSB" [.fixed .dx, .X .b])),
   (.one 0x6F#8, .desc (opcode "OUTSW" [.fixed .dx, .X .v]))]

/-- 70 to 7F. -/
def tableOne7 : OpcodeTable :=
  [(.one 0x70#8, .desc (opcode "JO" [.J .b])),
   (.one 0x71#8, .desc (opcode "JNO" [.J .b])),
   (.one 0x72#8, .desc (opcode "JB" [.J .b])),
   (.one 0x73#8, .desc (opcode "JNB" [.J .b])),
   (.one 0x74#8, .desc (opcode "JZ" [.J .b])),
   (.one 0x75#8, .desc (opcode "JNZ" [.J .b])),
   (.one 0x76#8, .desc (opcode "JBE" [.J .b])),
   (.one 0x77#8, .desc (opcode "JNBE" [.J .b])),
   (.one 0x78#8, .desc (opcode "JS" [.J .b])),
   (.one 0x79#8, .desc (opcode "JNS" [.J .b])),
   (.one 0x7A#8, .desc (opcode "JP" [.J .b])),
   (.one 0x7B#8, .desc (opcode "JNP" [.J .b])),
   (.one 0x7C#8, .desc (opcode "JL" [.J .b])),
   (.one 0x7D#8, .desc (opcode "JNL" [.J .b])),
   (.one 0x7E#8, .desc (opcode "JLE" [.J .b])),
   (.one 0x7F#8, .desc (opcode "JNLE" [.J .b]))]

/-- 80 to 8F. -/
def tableOne8 : OpcodeTable :=
  [(.one 0x80#8, .group
      [some (opcode "ADD" [.E .b, .I .b]),
       some (opcode "OR" [.E .b, .I .b]),
       some (opcode "ADC" [.E .b, .I .b]),
       some (opcode "SBB" [.E .b, .I .b]),
       some (opcode "AND" [.E .b, .I .b]),
       some (opcode "SUB" [.E .b, .I .b]),
       some (opcode "XOR" [.E .b, .I .b]),
       some (opcode "CMP" [.E .b, .I .b])]),
   (.one 0x81#8, .group
      [some (opcode "ADD" [.E .v, .I .v]),
       some (opcode "OR" [.E .v, .I .v]),
       some (opcode "ADC" [.E .v, .I .v]),
       some (opcode "SBB" [.E .v, .I .v]),
       some (opcode "AND" [.E .v, .I .v]),
       some (opcode "SUB" [.E .v, .I .v]),
       some (opcode "XOR" [.E .v, .I .v]),
       some (opcode "CMP" [.E .v, .I .v])]),
   (.one 0x82#8, .group
      [some (opcode "ADD" [.E .b, .I .b]),
       some (opcode "OR" [.E .b, .I .b]),
       some (opcode "ADC" [.E .b, .I .b]),
       some (opcode "SBB" [.E .b, .I .b]),
       some (opcode "AND" [.E .b, .I .b]),
       some (opcode "SUB" [.E .b, .I .b]),
       some (opcode "XOR" [.E .b, .I .b]),
       some (opcode "CMP" [.E .b, .I .b])]),
   (.one 0x83#8, .group
      [some (opcode "ADD" [.E .v, .I .bs]),
       some (opcode "OR" [.E .v, .I .bs]),
       some (opcode "ADC" [.E .v, .I .bs]),
       some (opcode "SBB" [.E .v, .I .bs]),
       some (opcode "AND" [.E .v, .I .bs]),
       some (opcode "SUB" [.E .v, .I .bs]),
       some (opcode "XOR" [.E .v, .I .bs]),
       some (opcode "CMP" [.E .v, .I .bs])]),
   (.one 0x84#8, .desc (opcode "TEST" [.E .b, .G .b])),
   (.one 0x85#8, .desc (opcode "TEST" [.E .v, .G .v])),
   (.one 0x86#8, .desc (opcode "XCHG" [.E .b, .G .b])),
   (.one 0x87#8, .desc (opcode "XCHG" [.E .v, .G .v])),
   (.one 0x88#8, .desc (opcode "MOV" [.E .b, .G .b])),
   (.one 0x89#8, .desc (opcode "MOV" [.E .v, .G .v])),
   (.one 0x8A#8, .desc (opcode "MOV" [.G .b, .E .b])),
   (.one 0x8B#8, .desc (opcode "MOV" [.G .v, .E .v])),
   (.one 0x8C#8, .desc (opcode "MOV" [.E .w, .S .w])),
   (.one 0x8D#8, .desc (opcode "LEA" [.G .v, .M none])),
   (.one 0x8E#8, .desc (opcode "MOV" [.S .w, .E .w])),
   (.one 0x8F#8, .group
      [some (opcode "POP" [.E .v]),
       none,
       none,
       none,
       none,
       none,
       none,
       none])]

/-- 90 to 9F. -/
def tableOne9 : OpcodeTable :=
  [(.one 0x90#8, .desc (opcode "NOP" [])),
   (.one 0x91#8, .desc (opcode "XCHG" [.Z .v, .fixed .eAX])),
   (.one 0x92#8, .desc (opcode "XCHG" [.Z .v, .fixed .eAX])),
   (.one 0x93#8, .desc (opcode "XCHG" [.Z .v, .fixed .eAX])),
   (.one 0x94#8, .desc (opcode "XCHG" [.Z .v, .fixed .eAX])),
   (.one 0x95#8, .desc (opcode "XCHG" [.Z .v, .fixed .eAX])),
   (.one 0x96#8, .desc (opcode "XCHG" [.Z .v, .fixed .eAX])),
   (.one 0x97#8, .desc (opcode "XCHG" [.Z .v, .fixed .eAX])),
   (.one 0x98#8, .desc (opcode "CBW" [])),
   (.one 0x99#8, .desc (opcode "CWD" [])),
   (.one 0x9A#8, .desc (opcode "CALLF" [.I .v, .I .w])),
   (.one 0x9B#8, .desc (opcode "WAIT" [])),
   (.one 0x9C#8, .desc (opcode "PUSHF" [])),
   (.one 0x9D#8, .desc (opcode "POPF" [])),
   (.one 0x9E#8, .desc (opcode "SAHF" [])),
   (.one 0x9F#8, .desc (opcode "LAHF" []))]

/-- A0 to AF. -/
def tableOneA : OpcodeTable :=
  [(.one 0xA0#8, .desc (opcode "MOV" [.fixed .al, .O .b])),
   (.one 0xA1#8, .desc (opcode "MOV" [.fixed .eAX, .O .v])),
   (.one 0xA2#8, .desc (opcode "MOV" [.O .b, .fixed .al])),
   (.one 0xA3#8, .desc (opcode "MOV" [.O .v, .fixed .eAX])),
   (.one 0xA4#8, .desc (opcode "MOVSB" [.X .b, .Y .b])),
   (.one 0xA5#8, .desc (opcode "MOVSW" [.X .v, .Y .v])),
   (.one 0xA6#8, .desc (opcode "CMPSB" [.X .b, .Y .b])),
   (.one 0xA7#8, .desc (opcode "CMPSW" [.X .v, .Y .v])),
   (.one 0xA8#8, .desc (opcode "TEST" [.fixed .al, .I .b])),
   (.one 0xA9#8, .desc (opcode "TEST" [.fixed .eAX, .I .v])),
   (.one 0xAA#8, .desc (opcode "STOSB" [.Y .b, .fixed .al])),
   (.one 0xAB#8, .desc (opcode "STOSW" [.Y .v, .fixed .eAX])),
   (.one 0xAC#8, .desc (opcode "LODSB" [.fixed .al, .X .b])),
   (.one 0xAD#8, .desc (opcode "LODSW" [.fixed .eAX, .X .v])),
   (.one 0xAE#8, .desc (opcode "SCASB" [.fixed .al, .Y .b])),
   (.one 0xAF#8, .desc (opcode "SCASW" [.fixed .eAX, .Y .v]))]

/-- B0 to BF. -/
def tableOneB : OpcodeTable :=
  [(.one 0xB0#8, .desc (opcode "MOV" [.Z .b, .I .b])),
   (.one 0xB1#8, .desc (opcode "MOV" [.Z .b, .I .b])),
   (.one 0xB2#8, .desc (opcode "MOV" [.Z .b, .I .b])),
   (.one 0xB3#8, .desc (opcode "MOV" [.Z .b, .I .b])),
   (.one 0xB4#8, .desc (opcode "MOV" [.Z .b, .I .b])),
   (.one 0xB5#8, .desc (opcode "MOV" [.Z .b, .I .b])),
   (.one 0xB6#8, .desc (opcode "MOV" [.Z .b, .I .b])),
   (.one 0xB7#8, .desc (opcode "MOV" [.Z .b, .I .b])),
   (.one 0xB8#8, .desc (opcode "MOV" [.Z .v, .I .v])),
   (.one 0xB9#8, .desc (opcode "MOV" [.Z .v, .I .v])),
   (.one 0xBA#8, .desc (opcode "MOV" [.Z .v, .I .v])),
   (.one 0xBB#8, .desc (opcode "MOV" [.Z .v, .I .v])),
   (.one 0xBC#8, .desc (opcode "MOV" [.Z .v, .I .v])),
   (.one 0xBD#8, .desc (opcode "MOV" [.Z .v, .I .v])),
   (.one 0xBE#8, .desc (opcode "MOV" [.Z .v, .I .v])),
   (.one 0xBF#8, .desc (opcode "MOV" [.Z .v, .I .v]))]

/-- C0 to CF. -/
def tableOneC : OpcodeTable :=
  [(.one 0xC0#8, .group
      [some (opcode "ROL" [.E .b, .I .b]),
       some (opcode "ROR" [.E .b, .I .b]),
       some (opcode "RCL" [.E .b, .I .b]),
       some (opcode "RCR" [.E .b, .I .b]),
       some (opcode "SHL" [.E .b, .I .b]),
       some (opcode "SHR" [.E .b, .I .b]),
       none,
       some (opcode "SAR" [.E .b, .I .b])]),
   (.one 0xC1#8, .group
      [some (opcode "ROL" [.E .v, .I .b]),
       some (opcode "ROR" [.E .v, .I .b]),
       some (opcode "RCL" [.E .v, .I .b]),
       some (opcode "RCR" [.E .v, .I .b]),
       some (opcode "SHL" [.E .v, .I .b]),
       some (opcode "SHR" [.E .v, .I .b]),
       none,
       some (opcode "SAR" [.E .v, .I .b])]),
   (.one 0xC2#8, .desc (opcode "RET" [.I .w])),
   (.one 0xC3#8, .desc (opcode "RET" [])),
   (.one 0xC4#8, .desc (opcode "LES" [.G .v, .M (some .p)])),
   (.one 0xC5#8, .desc (opcode "LDS" [.G .v, .M (some .p)])),
   (.one 0xC6#8, .group
      [some (opcode "MOV" [.E .b, .I .b]),
       none,
       none,
       none,
       none,
       none,
       none,
       none]),
   (.one 0xC7#8, .group
      [some (opcode "MOV" [.E .v, .I .v]),
       none,
       none,
       none,
       none,
       none,
       none,
       none]),
   (.one 0xC8#8, .desc (opcode "ENTER" [.I .w, .I .b])),
   (.one 0xC9#8, .desc (opcode "LEAVE" [])),
   (.one 0xCA#8, .desc (opcode "RETF" [.I .w])),
   (.one 0xCB#8, .desc (opcode "RETF" [])),
   (.one 0xCC#8, .desc (opcode "INT3" [])),
   (.one 0xCD#8, .desc (opcode "INT" [.I .b])),
   (.one 0xCE#8, .desc (opcode "INTO" [])),
   (.one 0xCF#8, .desc (opcode "IRET" []))]

/-- D0 to DF. -/
def tableOneD : OpcodeTable :=
  [(.one 0xD0#8, .group
      [some (opcode "ROL" [.E .b, .one]),
       some (opcode "ROR" [.E .b, .one]),
       some (opcode "RCL" [.E .b, .one]),
       some (opcode "RCR" [.E .b, .one]),
       some (opcode "SHL" [.E .b, .one]),
       some (opcode "SHR" [.E .b, .one]),
       none,
       some (opcode "SAR" [.E .b, .one])]),
   (.one 0xD1#8, .group
      [some (opcode "ROL" [.E .v, .one]),
       some (opcode "ROR" [.E .v, .one]),
       some (opcode "RCL" [.E .v, .one]),
       some (opcode "RCR" [.E .v, .one]),
       some (opcode "SHL" [.E .v, .one]),
       some (opcode "SHR" [.E .v, .one]),
       none,
       some (opcode "SAR" [.E .v, .one])]),
   (.one 0xD2#8, .group
      [some (opcode "ROL" [.E .b, .fixed .cl]),
       some (opcode "ROR" [.E .b, .fixed .cl]),
       some (opcode "RCL" [.E .b, .fixed .cl]),
       some (opcode "RCR" [.E .b, .fixed .cl]),
       some (opcode "SHL" [.E .b, .fixed .cl]),
       some (opcode "SHR" [.E .b, .fixed .cl]),
       none,
       some (opcode "SAR" [.E .b, .fixed .cl])]),
   (.one 0xD3#8, .group
      [some (opcode "ROL" [.E .v, .fixed .cl]),
       some (opcode "ROR" [.E .v, .fixed .cl]),
       some (opcode "RCL" [.E .v, .fixed .cl]),
       some (opcode "RCR" [.E .v, .fixed .cl]),
       some (opcode "SHL" [.E .v, .fixed .cl]),
       some (opcode "SHR" [.E .v, .fixed .cl]),
       none,
       some (opcode "SAR" [.E .v, .fixed .cl])]),
   (.one 0xD4#8, .desc (opcode "AAM" [.I .b])),
   (.one 0xD5#8, .desc (opcode "AAD" [.I .b])),
   (.one 0xD7#8, .desc (opcode "XLAT" [])),
   (.one 0xD8#8, .desc (opcode "ESC" [.fpu])),
   (.one 0xD9#8, .desc (opcode "ESC" [.fpu])),
   (.one 0xDA#8, .desc (opcode "ESC" [.fpu])),
   (.one 0xDB#8, .desc (opcode "ESC" [.fpu])),
   (.one 0xDC#8, .desc (opcode "ESC" [.fpu])),
   (.one 0xDD#8, .desc (opcode "ESC" [.fpu])),
   (.one 0xDE#8, .desc (opcode "ESC" [.fpu])),
   (.one 0xDF#8, .desc (opcode "ESC" [.fpu]))]

/-- E0 to EF. -/
def tableOneE : OpcodeTable :=
  [(.one 0xE0#8, .desc (opcode "LOOPNE" [.J .b])),
   (.one 0xE1#8, .desc (opcode "LOOPE" [.J .b])),
   (.one 0xE2#8, .desc (opcode "LOOP" [.J .b])),
   (.one 0xE3#8, .desc (opcode "JCXZ" [.J .b])),
   (.one 0xE4#8, .desc (opcode "IN" [.fixed .al, .I .b])),
   (.one 0xE5#8, .desc (opcode "IN" [.fixed .eAX, .I .b])),
   (.one 0xE6#8, .desc (opcode "OUT" [.I .b, .fixed .al])),
   (.one 0xE7#8, .desc (opcode "OUT" [.I .b, .fixed .eAX])),
   (.one 0xE8#8, .desc (opcode "CALL" [.J .v])),
   (.one 0xE9#8, .desc (opcode "JMP" [.J .v])),
   (.one 0xEA#8, .desc (opcode "JMPF" [.I .v, .I .w])),
   (.one 0xEB#8, .desc (opcode "JMP" [.J .b])),
   (.one 0xEC#8, .desc (opcode "IN" [.fixed .al, .fixed .dx])),
   (.one 0xED#8, .desc (opcode "IN" [.fixed .eAX, .fixed .dx])),
   (.one 0xEE#8, .desc (opcode "OUT" [.fixed .dx, .fixed .al])),
   (.one 0xEF#8, .desc (opcode "OUT" [.fixed .dx, .fixed .eAX]))]

/-- F0 to FF. -/
def tableOneF : OpcodeTable :=
  [(.one 0xF4#8, .desc (opcode "HLT" [])),
   (.one 0xF5#8, .desc (opcode "CMC" [])),
   (.one 0xF6#8, .group
      [some (opcode "TEST" [.E .b, .I .b]),
       none,
       some (opcode "NOT" [.E .b]),
       some (opcode "NEG" [.E .b]),
       some (opcode "MUL" [.E .b]),
       some (opcode "IMUL" [.E .b]),
       some (opcode "DIV" [.E .b]),
       some (opcode "IDIV" [.E .b])]),
   (.one 0xF7#8, .group
      [some (opcode "TEST" [.E .v, .I .v]),
       none,
       some (opcode "NOT" [.E .v]),
       some (opcode "NEG" [.E .v]),
       some (opcode "MUL" [.E .v]),
       some (opcode "IMUL" [.E .v]),
       some (opcode "DIV" [.E .v]),
       some (opcode "IDIV" [.E .v])]),
   (.one 0xF8#8, .desc (opcode "CLC" [])),
   (.one 0xF9#8, .desc (opcode "STC" [])),
   (.one 0xFA#8, .desc (opcode "CLI" [])),
   (.one 0xFB#8, .desc (opcode "STI" [])),
   (.one 0xFC#8, .desc (opcode "CLD" [])),
   (.one 0xFD#8, .desc (opcode "STD" [])),
   (.one 0xFE#8, .group
      [some (opcode "INC" [.E .b]),
       some (opcode "DEC" [.E .b]),
       none,
       none,
       none,
       none,
       none,
       none]),
   (.one 0xFF#8, .group
      [some (opcode "INC" [.E .v]),
       some (opcode "DEC" [.E .v]),
       some (opcode "CALL" [.E .v]),
       some (opcode "CALLF" [.M (some .p)]),
       some (opcode "JMP" [.E .v]),
       some (opcode "JMPF" [.M (some .p)]),
       some (opcode "PUSH" [.E .v]),
       none])]

/-- 0F 00 to 0F 0F. -/
def tableTwo0 : OpcodeTable :=
  [(.two 0x00#8, .group
      [some (opcode "SLDT" [.E .w]),
       some (opcode "STR" [.E .w]),
       some (opcode "LLDT" [.E .w]),
       some (opcode "LTR" [.E .w]),
       some (opcode "VERR" [.E .w]),
       some (opcode "VERW" [.E .w]),
       none,
       none]),
   (.two 0x01#8, .group
      [some (opcode "SGDT" [.M (some .s)]),
       some (opcode "SIDT" [.M (some .s)]),
       some (opcode "LGDT" [.M (some .s)]),
       some (opcode "LIDT" [.M (some .s)]),
       some (opcode "SMSW" [.E .w]),
       none,
       some (opcode "LMSW" [.E .w]),
       none]),
   (.two 0x02#8, .desc (opcode "LAR" [.G .v, .E .w])),
   (.two 0x03#8, .desc (opcode "LSL" [.G .v, .E .w])),
   (.two 0x06#8, .desc (opcode "CLTS" []))]

/-- 0F 20 to 0F 2F. -/
def tableTwo2 : OpcodeTable :=
  [(.two 0x20#8, .desc (opcode "MOV" [.R .d, .C .d])),
   (.two 0x21#8, .desc (opcode "MOV" [.R .d, .D .d])),
   (.two 0x22#8, .desc (opcode "MOV" [.C .d, .R .d])),
   (.two 0x23#8, .desc (opcode "MOV" [.D .d, .R .d])),
   (.two 0x24#8, .desc (opcode "MOV" [.R .d, .T .d])),
   (.two 0x26#8, .desc (opcode "MOV" [.T .d, .R .d]))]

/-- 0F 80 to 0F 8F. -/
def tableTwo8 : OpcodeTable :=
  [(.two 0x80#8, .desc (opcode "JO" [.J .v])),
   (.two 0x81#8, .desc (opcode "JNO" [.J .v])),
   (.two 0x82#8, .desc (opcode "JB" [.J .v])),
   (.two 0x83#8, .desc (opcode "JNB" [.J .v])),
   (.two 0x84#8, .desc (opcode "JZ" [.J .v])),
   (.two 0x85#8, .desc (opcode "JNZ" [.J .v])),
   (.two 0x86#8, .desc (opcode "JBE" [.J .v])),
   (.two 0x87#8, .desc (opcode "JNBE" [.J .v])),
   (.two 0x88#8, .desc (opcode "JS" [.J .v])),
   (.two 0x89#8, .desc (opcode "JNS" [.J .v])),
   (.two 0x8A#8, .desc (opcode "JP" [.J .v])),
   (.two 0x8B#8, .desc (opcode "JNP" [.J .v])),
   (.two 0x8C#8, .desc (opcode "JL" [.J .v])),
   (.two 0x8D#8, .desc (opcode "JNL" [.J .v])),
   (.two 0x8E#8, .desc (opcode "JLE" [.J .v])),
   (.two 0x8F#8, .desc (opcode "JNLE" [.J .v]))]

/-- 0F 90 to 0F 9F. -/
def tableTwo9 : OpcodeTable :=
  [(.two 0x90#8, .desc (opcode "SETO" [.E .b])),
   (.two 0x91#8, .desc (opcode "SETNO" [.E .b])),
   (.two 0x92#8, .desc (opcode "SETB" [.E .b])),
   (.two 0x93#8, .desc (opcode "SETNB" [.E .b])),
   (.two 0x94#8, .desc (opcode "SETZ" [.E .b])),
   (.two 0x95#8, .desc (opcode "SETNZ" [.E .b])),
   (.two 0x96#8, .desc (opcode "SETBE" [.E .b])),
   (.two 0x97#8, .desc (opcode "SETNBE" [.E .b])),
   (.two 0x98#8, .desc (opcode "SETS" [.E .b])),
   (.two 0x99#8, .desc (opcode "SETNS" [.E .b])),
   (.two 0x9A#8, .desc (opcode "SETP" [.E .b])),
   (.two 0x9B#8, .desc (opcode "SETNP" [.E .b])),
   (.two 0x9C#8, .desc (opcode "SETL" [.E .b])),
   (.two 0x9D#8, .desc (opcode "SETNL" [.E .b])),
   (.two 0x9E#8, .desc (opcode "SETLE" [.E .b])),
   (.two 0x9F#8, .desc (opcode "SETNLE" [.E .b]))]

/-- 0F A0 to 0F AF. -/
def tableTwoA : OpcodeTable :=
  [(.two 0xA0#8, .desc (opcode "PUSH" [.fixed (.seg .fs)])),
   (.two 0xA1#8, .desc (opcode "POP" [.fixed (.seg .fs)])),
   (.two 0xA3#8, .desc (opcode "BT" [.E .v, .G .v])),
   (.two 0xA4#8, .desc (opcode "SHLD" [.E .v, .G .v, .I .b])),
   (.two 0xA5#8, .desc (opcode "SHLD" [.E .v, .G .v, .fixed .cl])),
   (.two 0xA8#8, .desc (opcode "PUSH" [.fixed (.seg .gs)])),
   (.two 0xA9#8, .desc (opcode "POP" [.fixed (.seg .gs)])),
   (.two 0xAB#8, .desc (opcode "BTS" [.E .v, .G .v])),
   (.two 0xAC#8, .desc (opcode "SHRD" [.E .v, .G .v, .I .b])),
   (.two 0xAD#8, .desc (opcode "SHRD" [.E .v, .G .v, .fixed .cl])),
   (.two 0xAF#8, .desc (opcode "IMUL" [.G .v, .E .v]))]

/-- 0F B0 to 0F BF. -/
def tableTwoB : OpcodeTable :=
  [(.two 0xB2#8, .desc (opcode "LSS" [.G .v, .M (some .p)])),
   (.two 0xB3#8, .desc (opcode "BTR" [.E .v, .G .v])),
   (.two 0xB4#8, .desc (opcode "LFS" [.G .v, .M (some .p)])),
   (.two 0xB5#8, .desc (opcode "LGS" [.G .v, .M (some .p)])),
   (.two 0xB6#8, .desc (opcode "MOVZX" [.G .v, .E .b])),
   (.two 0xB7#8, .desc (opcode "MOVZX" [.G .v, .E .w])),
   (.two 0xBA#8, .group
      [none,
       none,
       none,
       none,
       some (opcode "BT" [.E .v, .I .b]),
       some (opcode "BTS" [.E .v, .I .b]),
       some (opcode "BTR" [.E .v, .I .b]),
       some (opcode "BTC" [.E .v, .I .b])]),
   (.two 0xBB#8, .desc (opcode "BTC" [.E .v, .G .v])),
   (.two 0xBC#8, .desc (opcode "BSF" [.G .v, .E .v])),
   (.two 0xBD#8, .desc (opcode "BSR" [.G .v, .E .v])),
   (.two 0xBE#8, .desc (opcode "MOVSX" [.G .v, .E .b])),
   (.two 0xBF#8, .desc (opcode "MOVSX" [.G .v, .E .w]))]

/-- The one-byte map of the default table (R104). -/
def tableOne : OpcodeTable :=
  tableOne0 ++ (tableOne1 ++ (tableOne2 ++ (tableOne3 ++ (tableOne4 ++ (tableOne5 ++ (tableOne6 ++
    (tableOne7 ++ (tableOne8 ++ (tableOne9 ++ (tableOneA ++ (tableOneB ++ (tableOneC ++ (tableOneD
    ++ (tableOneE ++ (tableOneF)))))))))))))))

/-- The two-byte map of the default table (R105). -/
def tableTwo : OpcodeTable :=
  tableTwo0 ++ (tableTwo2 ++ (tableTwo8 ++ (tableTwo9 ++ (tableTwoA ++ (tableTwoB)))))

/-- The default OPCODE_TABLE (R4, R8). -/
def defaultTable : OpcodeTable := tableOne ++ tableTwo

/-- The one-byte opcodes with no entry in the default table (48_onebyte_E0_FF.md R669). -/
def unassignedOne : List Byte := [0xD6#8, 0xF1#8]

/-- The second opcode bytes after 0F with no entry in the default table (49_twobyte_0F.md R670), as
the rule's own ranges. -/
def unassignedTwoRanges : List (Nat × Nat) :=
  [(0x04, 0x05), (0x07, 0x1F), (0x25, 0x25), (0x27, 0x7F), (0xA2, 0xA2), (0xA6, 0xA7),
   (0xAA, 0xAA), (0xAE, 0xAE), (0xB0, 0xB1), (0xB8, 0xB9), (0xC0, 0xFF)]

/-- Is `0F b` without an entry in the default table? (R670) -/
def isUnassignedTwo (b : Byte) : Bool :=
  unassignedTwoRanges.any fun r => r.1 ≤ b.toNat && b.toNat ≤ r.2

/-- `OPCODE_TABLE[key]` (R163). -/
def OpcodeTable.find (t : OpcodeTable) (k : Key) : Option Entry := t.lookup k

end Sys2Proof
end

