-- ==== Sys2Proof/WellFormed.lean ====
section
/-!
DEFINITION. Well-formedness: of an instruction under given attributes (its fields have the presence
and the sizes 30_encoding.md R96 to R98 and R124 give them), and of a configured opcode table
(41_opcode_table.md R168).
-/

namespace Sys2Proof

/-! ## Instructions -/

/-- The ModRM block less its reg field is as R185 to R187 read it: mod = 11 has neither SIB byte nor
displacement, a SIB byte is there exactly when R97 says so, and the displacement has its size. -/
def Rm.wellFormed (a : Attrs) (e : Rm) : Bool :=
  if e.mod = 3#2 then e.sib.isNone && e.disp.size == 0
  else if sibFollows a.asz e.rm then
    match e.sib with
    | some s => e.disp.size == dispSize32 e.mod s.base
    | none => false
  else
    e.sib.isNone && e.disp.size == match a.asz with
      | .s16 => dispSize16 e.mod e.rm
      | .s32 => dispSize32 e.mod e.rm

/-- An immediate or relative field of type `v`: `osz/8` bytes (R124). -/
def Field.operandSized (a : Attrs) (f : Field) : Bool := f.size == a.osz.bytes

/-- A direct offset: `asz/8` bytes (R124). -/
def Field.addressSized (a : Attrs) (f : Field) : Bool := f.size == a.asz.bytes

/-- Is the instruction one the encoding admits at these attributes? Every register number the
encoding has a field for is admitted, the reserved control, debug and test registers included (R199). -/
def Instr.wellFormed (a : Attrs) : Instr → Bool
  | .prefixES => true
  | .prefixCS => true
  | .prefixSS => true
  | .prefixDS => true
  | .prefixFS => true
  | .prefixGS => true
  | .prefixOPSIZE => true
  | .prefixADDRSIZE => true
  | .prefixLOCK => true
  | .prefixREPNE => true
  | .prefixREP => true
  | .escape0F => true
  | .add_00 _ e => e.wellFormed a
  | .add_01 _ e => e.wellFormed a
  | .add_02 _ e => e.wellFormed a
  | .add_03 _ e => e.wellFormed a
  | .add_04 _ => true
  | .add_05 imm => imm.operandSized a
  | .push_06 => true
  | .pop_07 => true
  | .or_08 _ e => e.wellFormed a
  | .or_09 _ e => e.wellFormed a
  | .or_0A _ e => e.wellFormed a
  | .or_0B _ e => e.wellFormed a
  | .or_0C _ => true
  | .or_0D imm => imm.operandSized a
  | .push_0E => true
  | .adc_10 _ e => e.wellFormed a
  | .adc_11 _ e => e.wellFormed a
  | .adc_12 _ e => e.wellFormed a
  | .adc_13 _ e => e.wellFormed a
  | .adc_14 _ => true
  | .adc_15 imm => imm.operandSized a
  | .push_16 => true
  | .pop_17 => true
  | .sbb_18 _ e => e.wellFormed a
  | .sbb_19 _ e => e.wellFormed a
  | .sbb_1A _ e => e.wellFormed a
  | .sbb_1B _ e => e.wellFormed a
  | .sbb_1C _ => true
  | .sbb_1D imm => imm.operandSized a
  | .push_1E => true
  | .pop_1F => true
  | .and_20 _ e => e.wellFormed a
  | .and_21 _ e => e.wellFormed a
  | .and_22 _ e => e.wellFormed a
  | .and_23 _ e => e.wellFormed a
  | .and_24 _ => true
  | .and_25 imm => imm.operandSized a
  | .daa_27 => true
  | .sub_28 _ e => e.wellFormed a
  | .sub_29 _ e => e.wellFormed a
  | .sub_2A _ e => e.wellFormed a
  | .sub_2B _ e => e.wellFormed a
  | .sub_2C _ => true
  | .sub_2D imm => imm.operandSized a
  | .das_2F => true
  | .xor_30 _ e => e.wellFormed a
  | .xor_31 _ e => e.wellFormed a
  | .xor_32 _ e => e.wellFormed a
  | .xor_33 _ e => e.wellFormed a
  | .xor_34 _ => true
  | .xor_35 imm => imm.operandSized a
  | .aaa_37 => true
  | .cmp_38 _ e => e.wellFormed a
  | .cmp_39 _ e => e.wellFormed a
  | .cmp_3A _ e => e.wellFormed a
  | .cmp_3B _ e => e.wellFormed a
  | .cmp_3C _ => true
  | .cmp_3D imm => imm.operandSized a
  | .aas_3F => true
  | .inc_40 _ => true
  | .dec_48 _ => true
  | .push_50 _ => true
  | .pop_58 _ => true
  | .pusha_60 => true
  | .popa_61 => true
  | .bound_62 _ e => e.wellFormed a
  | .arpl_63 _ e => e.wellFormed a
  | .push_68 imm => imm.operandSized a
  | .imul_69 _ e imm => e.wellFormed a && imm.operandSized a
  | .push_6A _ => true
  | .imul_6B _ e _ => e.wellFormed a
  | .insb_6C => true
  | .insw_6D => true
  | .outsb_6E => true
  | .outsw_6F => true
  | .jo_70 _ => true
  | .jno_71 _ => true
  | .jb_72 _ => true
  | .jnb_73 _ => true
  | .jz_74 _ => true
  | .jnz_75 _ => true
  | .jbe_76 _ => true
  | .jnbe_77 _ => true
  | .js_78 _ => true
  | .jns_79 _ => true
  | .jp_7A _ => true
  | .jnp_7B _ => true
  | .jl_7C _ => true
  | .jnl_7D _ => true
  | .jle_7E _ => true
  | .jnle_7F _ => true
  | .add_80_0 e _ => e.wellFormed a
  | .or_80_1 e _ => e.wellFormed a
  | .adc_80_2 e _ => e.wellFormed a
  | .sbb_80_3 e _ => e.wellFormed a
  | .and_80_4 e _ => e.wellFormed a
  | .sub_80_5 e _ => e.wellFormed a
  | .xor_80_6 e _ => e.wellFormed a
  | .cmp_80_7 e _ => e.wellFormed a
  | .add_81_0 e imm => e.wellFormed a && imm.operandSized a
  | .or_81_1 e imm => e.wellFormed a && imm.operandSized a
  | .adc_81_2 e imm => e.wellFormed a && imm.operandSized a
  | .sbb_81_3 e imm => e.wellFormed a && imm.operandSized a
  | .and_81_4 e imm => e.wellFormed a && imm.operandSized a
  | .sub_81_5 e imm => e.wellFormed a && imm.operandSized a
  | .xor_81_6 e imm => e.wellFormed a && imm.operandSized a
  | .cmp_81_7 e imm => e.wellFormed a && imm.operandSized a
  | .add_82_0 e _ => e.wellFormed a
  | .or_82_1 e _ => e.wellFormed a
  | .adc_82_2 e _ => e.wellFormed a
  | .sbb_82_3 e _ => e.wellFormed a
  | .and_82_4 e _ => e.wellFormed a
  | .sub_82_5 e _ => e.wellFormed a
  | .xor_82_6 e _ => e.wellFormed a
  | .cmp_82_7 e _ => e.wellFormed a
  | .add_83_0 e _ => e.wellFormed a
  | .or_83_1 e _ => e.wellFormed a
  | .adc_83_2 e _ => e.wellFormed a
  | .sbb_83_3 e _ => e.wellFormed a
  | .and_83_4 e _ => e.wellFormed a
  | .sub_83_5 e _ => e.wellFormed a
  | .xor_83_6 e _ => e.wellFormed a
  | .cmp_83_7 e _ => e.wellFormed a
  | .test_84 _ e => e.wellFormed a
  | .test_85 _ e => e.wellFormed a
  | .xchg_86 _ e => e.wellFormed a
  | .xchg_87 _ e => e.wellFormed a
  | .mov_88 _ e => e.wellFormed a
  | .mov_89 _ e => e.wellFormed a
  | .mov_8A _ e => e.wellFormed a
  | .mov_8B _ e => e.wellFormed a
  | .mov_8C reg e => namesSegment reg && e.wellFormed a
  | .lea_8D _ e => e.wellFormed a
  | .mov_8E reg e => namesSegment reg && e.wellFormed a
  | .pop_8F_0 e => e.wellFormed a
  | .nop_90 => true
  | .xchg_91 => true
  | .xchg_92 => true
  | .xchg_93 => true
  | .xchg_94 => true
  | .xchg_95 => true
  | .xchg_96 => true
  | .xchg_97 => true
  | .cbw_98 => true
  | .cwd_99 => true
  | .callf_9A off _ => off.operandSized a
  | .wait_9B => true
  | .pushf_9C => true
  | .popf_9D => true
  | .sahf_9E => true
  | .lahf_9F => true
  | .mov_A0 off => off.addressSized a
  | .mov_A1 off => off.addressSized a
  | .mov_A2 off => off.addressSized a
  | .mov_A3 off => off.addressSized a
  | .movsb_A4 => true
  | .movsw_A5 => true
  | .cmpsb_A6 => true
  | .cmpsw_A7 => true
  | .test_A8 _ => true
  | .test_A9 imm => imm.operandSized a
  | .stosb_AA => true
  | .stosw_AB => true
  | .lodsb_AC => true
  | .lodsw_AD => true
  | .scasb_AE => true
  | .scasw_AF => true
  | .mov_B0 _ _ => true
  | .mov_B8 _ imm => imm.operandSized a
  | .rol_C0_0 e _ => e.wellFormed a
  | .ror_C0_1 e _ => e.wellFormed a
  | .rcl_C0_2 e _ => e.wellFormed a
  | .rcr_C0_3 e _ => e.wellFormed a
  | .shl_C0_4 e _ => e.wellFormed a
  | .shr_C0_5 e _ => e.wellFormed a
  | .sar_C0_7 e _ => e.wellFormed a
  | .rol_C1_0 e _ => e.wellFormed a
  | .ror_C1_1 e _ => e.wellFormed a
  | .rcl_C1_2 e _ => e.wellFormed a
  | .rcr_C1_3 e _ => e.wellFormed a
  | .shl_C1_4 e _ => e.wellFormed a
  | .shr_C1_5 e _ => e.wellFormed a
  | .sar_C1_7 e _ => e.wellFormed a
  | .ret_C2 _ => true
  | .ret_C3 => true
  | .les_C4 _ e => e.wellFormed a
  | .lds_C5 _ e => e.wellFormed a
  | .mov_C6_0 e _ => e.wellFormed a
  | .mov_C7_0 e imm => e.wellFormed a && imm.operandSized a
  | .enter_C8 _ _ => true
  | .leave_C9 => true
  | .retf_CA _ => true
  | .retf_CB => true
  | .int3_CC => true
  | .int_CD _ => true
  | .into_CE => true
  | .iret_CF => true
  | .rol_D0_0 e => e.wellFormed a
  | .ror_D0_1 e => e.wellFormed a
  | .rcl_D0_2 e => e.wellFormed a
  | .rcr_D0_3 e => e.wellFormed a
  | .shl_D0_4 e => e.wellFormed a
  | .shr_D0_5 e => e.wellFormed a
  | .sar_D0_7 e => e.wellFormed a
  | .rol_D1_0 e => e.wellFormed a
  | .ror_D1_1 e => e.wellFormed a
  | .rcl_D1_2 e => e.wellFormed a
  | .rcr_D1_3 e => e.wellFormed a
  | .shl_D1_4 e => e.wellFormed a
  | .shr_D1_5 e => e.wellFormed a
  | .sar_D1_7 e => e.wellFormed a
  | .rol_D2_0 e => e.wellFormed a
  | .ror_D2_1 e => e.wellFormed a
  | .rcl_D2_2 e => e.wellFormed a
  | .rcr_D2_3 e => e.wellFormed a
  | .shl_D2_4 e => e.wellFormed a
  | .shr_D2_5 e => e.wellFormed a
  | .sar_D2_7 e => e.wellFormed a
  | .rol_D3_0 e => e.wellFormed a
  | .ror_D3_1 e => e.wellFormed a
  | .rcl_D3_2 e => e.wellFormed a
  | .rcr_D3_3 e => e.wellFormed a
  | .shl_D3_4 e => e.wellFormed a
  | .shr_D3_5 e => e.wellFormed a
  | .sar_D3_7 e => e.wellFormed a
  | .aam_D4 _ => true
  | .aad_D5 _ => true
  | .xlat_D7 => true
  | .esc_D8 _ => true
  | .loopne_E0 _ => true
  | .loope_E1 _ => true
  | .loop_E2 _ => true
  | .jcxz_E3 _ => true
  | .in_E4 _ => true
  | .in_E5 _ => true
  | .out_E6 _ => true
  | .out_E7 _ => true
  | .call_E8 rel => rel.operandSized a
  | .jmp_E9 rel => rel.operandSized a
  | .jmpf_EA off _ => off.operandSized a
  | .jmp_EB _ => true
  | .in_EC => true
  | .in_ED => true
  | .out_EE => true
  | .out_EF => true
  | .hlt_F4 => true
  | .cmc_F5 => true
  | .test_F6_0 e _ => e.wellFormed a
  | .not_F6_2 e => e.wellFormed a
  | .neg_F6_3 e => e.wellFormed a
  | .mul_F6_4 e => e.wellFormed a
  | .imul_F6_5 e => e.wellFormed a
  | .div_F6_6 e => e.wellFormed a
  | .idiv_F6_7 e => e.wellFormed a
  | .test_F7_0 e imm => e.wellFormed a && imm.operandSized a
  | .not_F7_2 e => e.wellFormed a
  | .neg_F7_3 e => e.wellFormed a
  | .mul_F7_4 e => e.wellFormed a
  | .imul_F7_5 e => e.wellFormed a
  | .div_F7_6 e => e.wellFormed a
  | .idiv_F7_7 e => e.wellFormed a
  | .clc_F8 => true
  | .stc_F9 => true
  | .cli_FA => true
  | .sti_FB => true
  | .cld_FC => true
  | .std_FD => true
  | .inc_FE_0 e => e.wellFormed a
  | .dec_FE_1 e => e.wellFormed a
  | .inc_FF_0 e => e.wellFormed a
  | .dec_FF_1 e => e.wellFormed a
  | .call_FF_2 e => e.wellFormed a
  | .callf_FF_3 e => e.wellFormed a
  | .jmp_FF_4 e => e.wellFormed a
  | .jmpf_FF_5 e => e.wellFormed a
  | .push_FF_6 e => e.wellFormed a
  | .sldt_0F00_0 e => e.wellFormed a
  | .str_0F00_1 e => e.wellFormed a
  | .lldt_0F00_2 e => e.wellFormed a
  | .ltr_0F00_3 e => e.wellFormed a
  | .verr_0F00_4 e => e.wellFormed a
  | .verw_0F00_5 e => e.wellFormed a
  | .sgdt_0F01_0 e => e.wellFormed a
  | .sidt_0F01_1 e => e.wellFormed a
  | .lgdt_0F01_2 e => e.wellFormed a
  | .lidt_0F01_3 e => e.wellFormed a
  | .smsw_0F01_4 e => e.wellFormed a
  | .lmsw_0F01_6 e => e.wellFormed a
  | .lar_0F02 _ e => e.wellFormed a
  | .lsl_0F03 _ e => e.wellFormed a
  | .clts_0F06 => true
  | .mov_0F20 _ _ _ => true
  | .mov_0F21 _ _ _ => true
  | .mov_0F22 _ _ _ => true
  | .mov_0F23 _ _ _ => true
  | .mov_0F24 _ _ _ => true
  | .mov_0F26 _ _ _ => true
  | .jo_0F80 rel => rel.operandSized a
  | .jno_0F81 rel => rel.operandSized a
  | .jb_0F82 rel => rel.operandSized a
  | .jnb_0F83 rel => rel.operandSized a
  | .jz_0F84 rel => rel.operandSized a
  | .jnz_0F85 rel => rel.operandSized a
  | .jbe_0F86 rel => rel.operandSized a
  | .jnbe_0F87 rel => rel.operandSized a
  | .js_0F88 rel => rel.operandSized a
  | .jns_0F89 rel => rel.operandSized a
  | .jp_0F8A rel => rel.operandSized a
  | .jnp_0F8B rel => rel.operandSized a
  | .jl_0F8C rel => rel.operandSized a
  | .jnl_0F8D rel => rel.operandSized a
  | .jle_0F8E rel => rel.operandSized a
  | .jnle_0F8F rel => rel.operandSized a
  | .seto_0F90 _ e => e.wellFormed a
  | .setno_0F91 _ e => e.wellFormed a
  | .setb_0F92 _ e => e.wellFormed a
  | .setnb_0F93 _ e => e.wellFormed a
  | .setz_0F94 _ e => e.wellFormed a
  | .setnz_0F95 _ e => e.wellFormed a
  | .setbe_0F96 _ e => e.wellFormed a
  | .setnbe_0F97 _ e => e.wellFormed a
  | .sets_0F98 _ e => e.wellFormed a
  | .setns_0F99 _ e => e.wellFormed a
  | .setp_0F9A _ e => e.wellFormed a
  | .setnp_0F9B _ e => e.wellFormed a
  | .setl_0F9C _ e => e.wellFormed a
  | .setnl_0F9D _ e => e.wellFormed a
  | .setle_0F9E _ e => e.wellFormed a
  | .setnle_0F9F _ e => e.wellFormed a
  | .push_0FA0 => true
  | .pop_0FA1 => true
  | .bt_0FA3 _ e => e.wellFormed a
  | .shld_0FA4 _ e _ => e.wellFormed a
  | .shld_0FA5 _ e => e.wellFormed a
  | .push_0FA8 => true
  | .pop_0FA9 => true
  | .bts_0FAB _ e => e.wellFormed a
  | .shrd_0FAC _ e _ => e.wellFormed a
  | .shrd_0FAD _ e => e.wellFormed a
  | .imul_0FAF _ e => e.wellFormed a
  | .lss_0FB2 _ e => e.wellFormed a
  | .btr_0FB3 _ e => e.wellFormed a
  | .lfs_0FB4 _ e => e.wellFormed a
  | .lgs_0FB5 _ e => e.wellFormed a
  | .movzx_0FB6 _ e => e.wellFormed a
  | .movzx_0FB7 _ e => e.wellFormed a
  | .bt_0FBA_4 e _ => e.wellFormed a
  | .bts_0FBA_5 e _ => e.wellFormed a
  | .btr_0FBA_6 e _ => e.wellFormed a
  | .btc_0FBA_7 e _ => e.wellFormed a
  | .btc_0FBB _ e => e.wellFormed a
  | .bsf_0FBC _ e => e.wellFormed a
  | .bsr_0FBD _ e => e.wellFormed a
  | .movsx_0FBE _ e => e.wellFormed a
  | .movsx_0FBF _ e => e.wellFormed a
  | .unassignedOneByte b => unassignedOne.contains b
  | .unassignedTwoByte b => isUnassignedTwo b

/-! ## Configured opcode tables (R168) -/

/-- How many specs of a descriptor satisfy `p`. -/
def OpcodeDescriptor.count (d : OpcodeDescriptor) (p : Spec → Bool) : Nat := (d.specs.filter p).length

/-- R168 for one descriptor: at most three specs, at most one of E or M, at most one reading the reg
field and none in a group slot, R only without E or M, and the group flag false (R32). -/
def OpcodeDescriptor.wellFormed (inGroup : Bool) (d : OpcodeDescriptor) : Bool :=
  d.specs.length ≤ 3 && d.count Spec.readsMem ≤ 1
    && d.count Spec.readsReg ≤ (if inGroup then 0 else 1)
    && (d.count Spec.isR == 0 || d.count Spec.readsMem == 0) && !d.isGroup

/-- R168 for one entry: a descriptor, or a group of exactly eight slots. -/
def Entry.wellFormed : Entry → Bool
  | .desc d => d.wellFormed false
  | .group slots => slots.length == 8 && slots.all fun o => match o with
      | some d => d.wellFormed true
      | none => true

/-- A key of R31: `(b0)` with `b0` not the escape, or `(0F, b1)`. -/
def Key.wellFormed : Key → Bool
  | .one b => b != 0x0F#8
  | .two _ => true

/-- A table a model may be given (R31, R168): well-formed keys, one entry a key, well-formed entries. -/
def OpcodeTable.wellFormed (t : OpcodeTable) : Bool :=
  t.all (fun e => e.1.wellFormed && e.2.wellFormed) && decide (t.map Prod.fst).Nodup

end Sys2Proof
end

