-- ==== Sys2Proof/Decode.lean ====
section
/-!
DEFINITION. Decoding the bytes of one opcode-table row (30_encoding.md R90 to R98, R120 to R124;
41_opcode_table.md R161 to R167; 42_addressing_resolver.md R183, R184, R198), total on any bytes and
rejecting by name, and after it the encoder, written from the same encodings. A row is one prefix
byte, the escape byte 0F, or an opcode with its ModRM block and trailing fields.
-/

namespace Sys2Proof

/- Lean's code generator numbers at most 245 constructors with fields; `Instr` has one a row, more than
that. What builds an `Instr` therefore has no compiled code; the kernel evaluates it like any other
definition (DESIGN CHOICE, safe: log entry 12). -/
noncomputable section

/-! ## Answers of the decoder -/

/-- Why the bytes are no instruction. Positions count from the first byte given to the decoder. -/
inductive DecodeError where
  /-- the bytes end inside `field`, which starts at `pos`; `bytes` is the part present (R902) -/
  | truncated (field : FailField) (pos : Nat) (bytes : List Byte)
  /-- the key has no entry in a configured table (R163) -/
  | unassigned (k : Key)
  /-- the group slot the ModRM byte `m` selects is empty (R162) -/
  | emptySlot (k : Key) (m : Byte)
  /-- an S-class operand with reg 6 or 7 (R198) -/
  | noSegment (k : Key) (m : Byte)
deriving DecidableEq, Repr

/-- What the bytes are: a row of the default table, or a row only the configured table has (R8, R168). -/
inductive Decoded where
  | row (i : Instr)
  | configured (k : Key) (d : OpcodeDescriptor) (f : Fields)
deriving DecidableEq, Repr

/-! ## Reading the fields -/

/-- Reads one field of `n` bytes at position `pos` (R75, R902). -/
def readField (field : FailField) (n pos : Nat) (bs : List Byte) : Except DecodeError (Field × List Byte) :=
  match takeField n bs with
  | some r => .ok r
  | none => .error (.truncated field pos bs)

/-- The displacement of the memory part (R185, R186), then the bytes after it. -/
def readDisp (sib : Option Sib) (n pos : Nat) (bs : List Byte) :
    Except DecodeError ((Option Sib × Field) × List Byte) :=
  match readField .displacement n pos bs with
  | .ok (f, rest) => .ok ((sib, f), rest)
  | .error e => .error e

/-- The memory part of the ModRM block, `mod ≠ 11`: the SIB byte where there is one, then the
displacement (R185 to R187). -/
def readMemory (asz : Width) (m : ModRM) (pos : Nat) (bs : List Byte) :
    Except DecodeError ((Option Sib × Field) × List Byte) :=
  match asz with
  | .s16 => readDisp none (dispSize16 m.mod m.rm) pos bs
  | .s32 =>
    if sibFollows .s32 m.rm then
      match bs with
      | [] => .error (.truncated .sib pos [])
      | s :: rest => readDisp (some (Sib.ofByte s)) (dispSize32 m.mod (Sib.ofByte s).base) (pos + 1) rest
    else readDisp none (dispSize32 m.mod m.rm) pos bs

/-- The trailing fields, in the declared order of their specs (R90, R124). -/
def readTrailing (a : Attrs) : List Spec → Nat → List Byte → Except DecodeError (List Field × List Byte)
  | [], _, bs => .ok ([], bs)
  | sp :: sps, pos, bs =>
    match sp.trailing? a with
    | none => readTrailing a sps pos bs
    | some (n, field) =>
      match readField field n pos bs with
      | .error e => .error e
      | .ok (f, rest) =>
        match readTrailing a sps (pos + n) rest with
        | .error e => .error e
        | .ok (fs, rest') => .ok (f :: fs, rest')

/-- The trailing fields after a ModRM block already read. -/
def readRest (a : Attrs) (d : OpcodeDescriptor) (m : Option ModRM) (sib : Option Sib) (disp : Field)
    (pos : Nat) (bs : List Byte) : Except DecodeError (Fields × List Byte) :=
  match readTrailing a d.specs pos bs with
  | .ok (fs, rest) => .ok (⟨m, sib, disp, fs⟩, rest)
  | .error e => .error e

/-- Does the instruction have a ModRM byte? (R183) -/
def needsModRM (inGroup : Bool) (d : OpcodeDescriptor) : Bool := inGroup || d.specs.any Spec.readsModRM

/-- Is the memory part parsed? (R184) -/
def needsMemory (d : OpcodeDescriptor) (m : ModRM) : Bool := m.mod != 3#2 && d.specs.any Spec.readsMem

/-- Does an S-class operand name no segment register? (R198) -/
def segmentMissing (d : OpcodeDescriptor) (m : ModRM) : Bool := d.specs.any Spec.isS && !namesSegment m.reg

/-- The fields of a final descriptor: the ModRM byte, the S-register check, the memory part and the
trailing fields, in the order of 43_decoder.md R240 steps 6 and 7. -/
def readFields (a : Attrs) (k : Key) (inGroup : Bool) (d : OpcodeDescriptor) (pos : Nat) (bs : List Byte) :
    Except DecodeError (Fields × List Byte) :=
  if needsModRM inGroup d then
    match bs with
    | [] => .error (.truncated .modrm pos [])
    | b :: rest =>
      let m := ModRM.ofByte b
      if segmentMissing d m then .error (.noSegment k b)
      else if needsMemory d m then
        match readMemory a.asz m (pos + 1) rest with
        | .error e => .error e
        | .ok ((sib, disp), rest') =>
          readRest a d (some m) sib disp (pos + 1 + sib.toList.length + disp.size) rest'
      else readRest a d (some m) none .absent (pos + 1) rest
  else readRest a d none none .absent pos bs

/-! ## From fields to the constructors

Each maker takes the fields of one shape. -/

/-- What builds a constructor from its fields. -/
abbrev Maker := Key × Option (BitVec 3) × (Fields → Option Instr)

/-- No field. -/
def ofPlain (c : Instr) : Fields → Option Instr
  | ⟨none, none, .absent, []⟩ => some c
  | _ => none

/-- One byte. -/
def ofPlain8 (c : BitVec 8 → Instr) : Fields → Option Instr
  | ⟨none, none, .absent, [.f8 v]⟩ => some (c v)
  | _ => none

/-- One 16-bit field. -/
def ofPlain16 (c : BitVec 16 → Instr) : Fields → Option Instr
  | ⟨none, none, .absent, [.f16 v]⟩ => some (c v)
  | _ => none

/-- One field sized by an attribute. -/
def ofPlainF (c : Field → Instr) : Fields → Option Instr
  | ⟨none, none, .absent, [v]⟩ => some (c v)
  | _ => none

/-- A direct far pointer: offset, then selector (R204). -/
def ofPlainF16 (c : Field → BitVec 16 → Instr) : Fields → Option Instr
  | ⟨none, none, .absent, [v, .f16 w]⟩ => some (c v w)
  | _ => none

/-- ENTER: a 16-bit field, then a byte. -/
def ofPlain168 (c : BitVec 16 → BitVec 8 → Instr) : Fields → Option Instr
  | ⟨none, none, .absent, [.f16 v, .f8 w]⟩ => some (c v w)
  | _ => none

/-- A ModRM block. -/
def ofReg (c : BitVec 3 → Rm → Instr) : Fields → Option Instr
  | ⟨some m, sib, disp, []⟩ => some (c m.reg ⟨m.mod, m.rm, sib, disp⟩)
  | _ => none

/-- A ModRM block and one byte. -/
def ofReg8 (c : BitVec 3 → Rm → BitVec 8 → Instr) : Fields → Option Instr
  | ⟨some m, sib, disp, [.f8 v]⟩ => some (c m.reg ⟨m.mod, m.rm, sib, disp⟩ v)
  | _ => none

/-- A ModRM block and one field sized by an attribute. -/
def ofRegF (c : BitVec 3 → Rm → Field → Instr) : Fields → Option Instr
  | ⟨some m, sib, disp, [v]⟩ => some (c m.reg ⟨m.mod, m.rm, sib, disp⟩ v)
  | _ => none

/-- The ModRM block of a group row, whose reg field is the slot (R162). -/
def ofRm (c : Rm → Instr) : Fields → Option Instr
  | ⟨some m, sib, disp, []⟩ => some (c ⟨m.mod, m.rm, sib, disp⟩)
  | _ => none

/-- The ModRM block of a group row and one byte. -/
def ofRm8 (c : Rm → BitVec 8 → Instr) : Fields → Option Instr
  | ⟨some m, sib, disp, [.f8 v]⟩ => some (c ⟨m.mod, m.rm, sib, disp⟩ v)
  | _ => none

/-- The ModRM block of a group row and one field sized by an attribute. -/
def ofRmF (c : Rm → Field → Instr) : Fields → Option Instr
  | ⟨some m, sib, disp, [v]⟩ => some (c ⟨m.mod, m.rm, sib, disp⟩ v)
  | _ => none

/-- A lone ModRM byte (R197). -/
def ofLone (c : BitVec 2 → BitVec 3 → BitVec 3 → Instr) : Fields → Option Instr
  | ⟨some m, none, .absent, []⟩ => some (c m.mod m.reg m.rm)
  | _ => none

/-! ## The rows of 44_onebyte_00_5F.md to 49_twobyte_0F.md: key, group slot, constructor -/

/-- 00 to 0F. -/
def rowsOne0 : List Maker :=
  [(.one 0x00#8, none, ofReg .add_00),
   (.one 0x01#8, none, ofReg .add_01),
   (.one 0x02#8, none, ofReg .add_02),
   (.one 0x03#8, none, ofReg .add_03),
   (.one 0x04#8, none, ofPlain8 .add_04),
   (.one 0x05#8, none, ofPlainF .add_05),
   (.one 0x06#8, none, ofPlain .push_06),
   (.one 0x07#8, none, ofPlain .pop_07),
   (.one 0x08#8, none, ofReg .or_08),
   (.one 0x09#8, none, ofReg .or_09),
   (.one 0x0A#8, none, ofReg .or_0A),
   (.one 0x0B#8, none, ofReg .or_0B),
   (.one 0x0C#8, none, ofPlain8 .or_0C),
   (.one 0x0D#8, none, ofPlainF .or_0D),
   (.one 0x0E#8, none, ofPlain .push_0E)]

/-- 10 to 1F. -/
def rowsOne1 : List Maker :=
  [(.one 0x10#8, none, ofReg .adc_10),
   (.one 0x11#8, none, ofReg .adc_11),
   (.one 0x12#8, none, ofReg .adc_12),
   (.one 0x13#8, none, ofReg .adc_13),
   (.one 0x14#8, none, ofPlain8 .adc_14),
   (.one 0x15#8, none, ofPlainF .adc_15),
   (.one 0x16#8, none, ofPlain .push_16),
   (.one 0x17#8, none, ofPlain .pop_17),
   (.one 0x18#8, none, ofReg .sbb_18),
   (.one 0x19#8, none, ofReg .sbb_19),
   (.one 0x1A#8, none, ofReg .sbb_1A),
   (.one 0x1B#8, none, ofReg .sbb_1B),
   (.one 0x1C#8, none, ofPlain8 .sbb_1C),
   (.one 0x1D#8, none, ofPlainF .sbb_1D),
   (.one 0x1E#8, none, ofPlain .push_1E),
   (.one 0x1F#8, none, ofPlain .pop_1F)]

/-- 20 to 2F. -/
def rowsOne2 : List Maker :=
  [(.one 0x20#8, none, ofReg .and_20),
   (.one 0x21#8, none, ofReg .and_21),
   (.one 0x22#8, none, ofReg .and_22),
   (.one 0x23#8, none, ofReg .and_23),
   (.one 0x24#8, none, ofPlain8 .and_24),
   (.one 0x25#8, none, ofPlainF .and_25),
   (.one 0x27#8, none, ofPlain .daa_27),
   (.one 0x28#8, none, ofReg .sub_28),
   (.one 0x29#8, none, ofReg .sub_29),
   (.one 0x2A#8, none, ofReg .sub_2A),
   (.one 0x2B#8, none, ofReg .sub_2B),
   (.one 0x2C#8, none, ofPlain8 .sub_2C),
   (.one 0x2D#8, none, ofPlainF .sub_2D),
   (.one 0x2F#8, none, ofPlain .das_2F)]

/-- 30 to 3F. -/
def rowsOne3 : List Maker :=
  [(.one 0x30#8, none, ofReg .xor_30),
   (.one 0x31#8, none, ofReg .xor_31),
   (.one 0x32#8, none, ofReg .xor_32),
   (.one 0x33#8, none, ofReg .xor_33),
   (.one 0x34#8, none, ofPlain8 .xor_34),
   (.one 0x35#8, none, ofPlainF .xor_35),
   (.one 0x37#8, none, ofPlain .aaa_37),
   (.one 0x38#8, none, ofReg .cmp_38),
   (.one 0x39#8, none, ofReg .cmp_39),
   (.one 0x3A#8, none, ofReg .cmp_3A),
   (.one 0x3B#8, none, ofReg .cmp_3B),
   (.one 0x3C#8, none, ofPlain8 .cmp_3C),
   (.one 0x3D#8, none, ofPlainF .cmp_3D),
   (.one 0x3F#8, none, ofPlain .aas_3F)]

/-- 40 to 4F. -/
def rowsOne4 : List Maker :=
  [(.one 0x40#8, none, ofPlain (.inc_40 0#3)),
   (.one 0x41#8, none, ofPlain (.inc_40 1#3)),
   (.one 0x42#8, none, ofPlain (.inc_40 2#3)),
   (.one 0x43#8, none, ofPlain (.inc_40 3#3)),
   (.one 0x44#8, none, ofPlain (.inc_40 4#3)),
   (.one 0x45#8, none, ofPlain (.inc_40 5#3)),
   (.one 0x46#8, none, ofPlain (.inc_40 6#3)),
   (.one 0x47#8, none, ofPlain (.inc_40 7#3)),
   (.one 0x48#8, none, ofPlain (.dec_48 0#3)),
   (.one 0x49#8, none, ofPlain (.dec_48 1#3)),
   (.one 0x4A#8, none, ofPlain (.dec_48 2#3)),
   (.one 0x4B#8, none, ofPlain (.dec_48 3#3)),
   (.one 0x4C#8, none, ofPlain (.dec_48 4#3)),
   (.one 0x4D#8, none, ofPlain (.dec_48 5#3)),
   (.one 0x4E#8, none, ofPlain (.dec_48 6#3)),
   (.one 0x4F#8, none, ofPlain (.dec_48 7#3))]

/-- 50 to 5F. -/
def rowsOne5 : List Maker :=
  [(.one 0x50#8, none, ofPlain (.push_50 0#3)),
   (.one 0x51#8, none, ofPlain (.push_50 1#3)),
   (.one 0x52#8, none, ofPlain (.push_50 2#3)),
   (.one 0x53#8, none, ofPlain (.push_50 3#3)),
   (.one 0x54#8, none, ofPlain (.push_50 4#3)),
   (.one 0x55#8, none, ofPlain (.push_50 5#3)),
   (.one 0x56#8, none, ofPlain (.push_50 6#3)),
   (.one 0x57#8, none, ofPlain (.push_50 7#3)),
   (.one 0x58#8, none, ofPlain (.pop_58 0#3)),
   (.one 0x59#8, none, ofPlain (.pop_58 1#3)),
   (.one 0x5A#8, none, ofPlain (.pop_58 2#3)),
   (.one 0x5B#8, none, ofPlain (.pop_58 3#3)),
   (.one 0x5C#8, none, ofPlain (.pop_58 4#3)),
   (.one 0x5D#8, none, ofPlain (.pop_58 5#3)),
   (.one 0x5E#8, none, ofPlain (.pop_58 6#3)),
   (.one 0x5F#8, none, ofPlain (.pop_58 7#3))]

/-- 60 to 6F. -/
def rowsOne6 : List Maker :=
  [(.one 0x60#8, none, ofPlain .pusha_60),
   (.one 0x61#8, none, ofPlain .popa_61),
   (.one 0x62#8, none, ofReg .bound_62),
   (.one 0x63#8, none, ofReg .arpl_63),
   (.one 0x68#8, none, ofPlainF .push_68),
   (.one 0x69#8, none, ofRegF .imul_69),
   (.one 0x6A#8, none, ofPlain8 .push_6A),
   (.one 0x6B#8, none, ofReg8 .imul_6B),
   (.one 0x6C#8, none, ofPlain .insb_6C),
   (.one 0x6D#8, none, ofPlain .insw_6D),
   (.one 0x6E#8, none, ofPlain .outsb_6E),
   (.one 0x6F#8, none, ofPlain .outsw_6F)]

/-- 70 to 7F. -/
def rowsOne7 : List Maker :=
  [(.one 0x70#8, none, ofPlain8 .jo_70),
   (.one 0x71#8, none, ofPlain8 .jno_71),
   (.one 0x72#8, none, ofPlain8 .jb_72),
   (.one 0x73#8, none, ofPlain8 .jnb_73),
   (.one 0x74#8, none, ofPlain8 .jz_74),
   (.one 0x75#8, none, ofPlain8 .jnz_75),
   (.one 0x76#8, none, ofPlain8 .jbe_76),
   (.one 0x77#8, none, ofPlain8 .jnbe_77),
   (.one 0x78#8, none, ofPlain8 .js_78),
   (.one 0x79#8, none, ofPlain8 .jns_79),
   (.one 0x7A#8, none, ofPlain8 .jp_7A),
   (.one 0x7B#8, none, ofPlain8 .jnp_7B),
   (.one 0x7C#8, none, ofPlain8 .jl_7C),
   (.one 0x7D#8, none, ofPlain8 .jnl_7D),
   (.one 0x7E#8, none, ofPlain8 .jle_7E),
   (.one 0x7F#8, none, ofPlain8 .jnle_7F)]

/-- 80 to 8F. -/
def rowsOne8 : List Maker :=
  [(.one 0x80#8, some 0#3, ofRm8 .add_80_0),
   (.one 0x80#8, some 1#3, ofRm8 .or_80_1),
   (.one 0x80#8, some 2#3, ofRm8 .adc_80_2),
   (.one 0x80#8, some 3#3, ofRm8 .sbb_80_3),
   (.one 0x80#8, some 4#3, ofRm8 .and_80_4),
   (.one 0x80#8, some 5#3, ofRm8 .sub_80_5),
   (.one 0x80#8, some 6#3, ofRm8 .xor_80_6),
   (.one 0x80#8, some 7#3, ofRm8 .cmp_80_7),
   (.one 0x81#8, some 0#3, ofRmF .add_81_0),
   (.one 0x81#8, some 1#3, ofRmF .or_81_1),
   (.one 0x81#8, some 2#3, ofRmF .adc_81_2),
   (.one 0x81#8, some 3#3, ofRmF .sbb_81_3),
   (.one 0x81#8, some 4#3, ofRmF .and_81_4),
   (.one 0x81#8, some 5#3, ofRmF .sub_81_5),
   (.one 0x81#8, some 6#3, ofRmF .xor_81_6),
   (.one 0x81#8, some 7#3, ofRmF .cmp_81_7),
   (.one 0x82#8, some 0#3, ofRm8 .add_82_0),
   (.one 0x82#8, some 1#3, ofRm8 .or_82_1),
   (.one 0x82#8, some 2#3, ofRm8 .adc_82_2),
   (.one 0x82#8, some 3#3, ofRm8 .sbb_82_3),
   (.one 0x82#8, some 4#3, ofRm8 .and_82_4),
   (.one 0x82#8, some 5#3, ofRm8 .sub_82_5),
   (.one 0x82#8, some 6#3, ofRm8 .xor_82_6),
   (.one 0x82#8, some 7#3, ofRm8 .cmp_82_7),
   (.one 0x83#8, some 0#3, ofRm8 .add_83_0),
   (.one 0x83#8, some 1#3, ofRm8 .or_83_1),
   (.one 0x83#8, some 2#3, ofRm8 .adc_83_2),
   (.one 0x83#8, some 3#3, ofRm8 .sbb_83_3),
   (.one 0x83#8, some 4#3, ofRm8 .and_83_4),
   (.one 0x83#8, some 5#3, ofRm8 .sub_83_5),
   (.one 0x83#8, some 6#3, ofRm8 .xor_83_6),
   (.one 0x83#8, some 7#3, ofRm8 .cmp_83_7),
   (.one 0x84#8, none, ofReg .test_84),
   (.one 0x85#8, none, ofReg .test_85),
   (.one 0x86#8, none, ofReg .xchg_86),
   (.one 0x87#8, none, ofReg .xchg_87),
   (.one 0x88#8, none, ofReg .mov_88),
   (.one 0x89#8, none, ofReg .mov_89),
   (.one 0x8A#8, none, ofReg .mov_8A),
   (.one 0x8B#8, none, ofReg .mov_8B),
   (.one 0x8C#8, none, ofReg .mov_8C),
   (.one 0x8D#8, none, ofReg .lea_8D),
   (.one 0x8E#8, none, ofReg .mov_8E),
   (.one 0x8F#8, some 0#3, ofRm .pop_8F_0)]

/-- 90 to 9F. -/
def rowsOne9 : List Maker :=
  [(.one 0x90#8, none, ofPlain .nop_90),
   (.one 0x91#8, none, ofPlain .xchg_91),
   (.one 0x92#8, none, ofPlain .xchg_92),
   (.one 0x93#8, none, ofPlain .xchg_93),
   (.one 0x94#8, none, ofPlain .xchg_94),
   (.one 0x95#8, none, ofPlain .xchg_95),
   (.one 0x96#8, none, ofPlain .xchg_96),
   (.one 0x97#8, none, ofPlain .xchg_97),
   (.one 0x98#8, none, ofPlain .cbw_98),
   (.one 0x99#8, none, ofPlain .cwd_99),
   (.one 0x9A#8, none, ofPlainF16 .callf_9A),
   (.one 0x9B#8, none, ofPlain .wait_9B),
   (.one 0x9C#8, none, ofPlain .pushf_9C),
   (.one 0x9D#8, none, ofPlain .popf_9D),
   (.one 0x9E#8, none, ofPlain .sahf_9E),
   (.one 0x9F#8, none, ofPlain .lahf_9F)]

/-- A0 to AF. -/
def rowsOneA : List Maker :=
  [(.one 0xA0#8, none, ofPlainF .mov_A0),
   (.one 0xA1#8, none, ofPlainF .mov_A1),
   (.one 0xA2#8, none, ofPlainF .mov_A2),
   (.one 0xA3#8, none, ofPlainF .mov_A3),
   (.one 0xA4#8, none, ofPlain .movsb_A4),
   (.one 0xA5#8, none, ofPlain .movsw_A5),
   (.one 0xA6#8, none, ofPlain .cmpsb_A6),
   (.one 0xA7#8, none, ofPlain .cmpsw_A7),
   (.one 0xA8#8, none, ofPlain8 .test_A8),
   (.one 0xA9#8, none, ofPlainF .test_A9),
   (.one 0xAA#8, none, ofPlain .stosb_AA),
   (.one 0xAB#8, none, ofPlain .stosw_AB),
   (.one 0xAC#8, none, ofPlain .lodsb_AC),
   (.one 0xAD#8, none, ofPlain .lodsw_AD),
   (.one 0xAE#8, none, ofPlain .scasb_AE),
   (.one 0xAF#8, none, ofPlain .scasw_AF)]

/-- B0 to BF. -/
def rowsOneB : List Maker :=
  [(.one 0xB0#8, none, ofPlain8 (.mov_B0 0#3)),
   (.one 0xB1#8, none, ofPlain8 (.mov_B0 1#3)),
   (.one 0xB2#8, none, ofPlain8 (.mov_B0 2#3)),
   (.one 0xB3#8, none, ofPlain8 (.mov_B0 3#3)),
   (.one 0xB4#8, none, ofPlain8 (.mov_B0 4#3)),
   (.one 0xB5#8, none, ofPlain8 (.mov_B0 5#3)),
   (.one 0xB6#8, none, ofPlain8 (.mov_B0 6#3)),
   (.one 0xB7#8, none, ofPlain8 (.mov_B0 7#3)),
   (.one 0xB8#8, none, ofPlainF (.mov_B8 0#3)),
   (.one 0xB9#8, none, ofPlainF (.mov_B8 1#3)),
   (.one 0xBA#8, none, ofPlainF (.mov_B8 2#3)),
   (.one 0xBB#8, none, ofPlainF (.mov_B8 3#3)),
   (.one 0xBC#8, none, ofPlainF (.mov_B8 4#3)),
   (.one 0xBD#8, none, ofPlainF (.mov_B8 5#3)),
   (.one 0xBE#8, none, ofPlainF (.mov_B8 6#3)),
   (.one 0xBF#8, none, ofPlainF (.mov_B8 7#3))]

/-- C0 to CF. -/
def rowsOneC : List Maker :=
  [(.one 0xC0#8, some 0#3, ofRm8 .rol_C0_0),
   (.one 0xC0#8, some 1#3, ofRm8 .ror_C0_1),
   (.one 0xC0#8, some 2#3, ofRm8 .rcl_C0_2),
   (.one 0xC0#8, some 3#3, ofRm8 .rcr_C0_3),
   (.one 0xC0#8, some 4#3, ofRm8 .shl_C0_4),
   (.one 0xC0#8, some 5#3, ofRm8 .shr_C0_5),
   (.one 0xC0#8, some 7#3, ofRm8 .sar_C0_7),
   (.one 0xC1#8, some 0#3, ofRm8 .rol_C1_0),
   (.one 0xC1#8, some 1#3, ofRm8 .ror_C1_1),
   (.one 0xC1#8, some 2#3, ofRm8 .rcl_C1_2),
   (.one 0xC1#8, some 3#3, ofRm8 .rcr_C1_3),
   (.one 0xC1#8, some 4#3, ofRm8 .shl_C1_4),
   (.one 0xC1#8, some 5#3, ofRm8 .shr_C1_5),
   (.one 0xC1#8, some 7#3, ofRm8 .sar_C1_7),
   (.one 0xC2#8, none, ofPlain16 .ret_C2),
   (.one 0xC3#8, none, ofPlain .ret_C3),
   (.one 0xC4#8, none, ofReg .les_C4),
   (.one 0xC5#8, none, ofReg .lds_C5),
   (.one 0xC6#8, some 0#3, ofRm8 .mov_C6_0),
   (.one 0xC7#8, some 0#3, ofRmF .mov_C7_0),
   (.one 0xC8#8, none, ofPlain168 .enter_C8),
   (.one 0xC9#8, none, ofPlain .leave_C9),
   (.one 0xCA#8, none, ofPlain16 .retf_CA),
   (.one 0xCB#8, none, ofPlain .retf_CB),
   (.one 0xCC#8, none, ofPlain .int3_CC),
   (.one 0xCD#8, none, ofPlain8 .int_CD),
   (.one 0xCE#8, none, ofPlain .into_CE),
   (.one 0xCF#8, none, ofPlain .iret_CF)]

/-- D0 to DF. -/
def rowsOneD : List Maker :=
  [(.one 0xD0#8, some 0#3, ofRm .rol_D0_0),
   (.one 0xD0#8, some 1#3, ofRm .ror_D0_1),
   (.one 0xD0#8, some 2#3, ofRm .rcl_D0_2),
   (.one 0xD0#8, some 3#3, ofRm .rcr_D0_3),
   (.one 0xD0#8, some 4#3, ofRm .shl_D0_4),
   (.one 0xD0#8, some 5#3, ofRm .shr_D0_5),
   (.one 0xD0#8, some 7#3, ofRm .sar_D0_7),
   (.one 0xD1#8, some 0#3, ofRm .rol_D1_0),
   (.one 0xD1#8, some 1#3, ofRm .ror_D1_1),
   (.one 0xD1#8, some 2#3, ofRm .rcl_D1_2),
   (.one 0xD1#8, some 3#3, ofRm .rcr_D1_3),
   (.one 0xD1#8, some 4#3, ofRm .shl_D1_4),
   (.one 0xD1#8, some 5#3, ofRm .shr_D1_5),
   (.one 0xD1#8, some 7#3, ofRm .sar_D1_7),
   (.one 0xD2#8, some 0#3, ofRm .rol_D2_0),
   (.one 0xD2#8, some 1#3, ofRm .ror_D2_1),
   (.one 0xD2#8, some 2#3, ofRm .rcl_D2_2),
   (.one 0xD2#8, some 3#3, ofRm .rcr_D2_3),
   (.one 0xD2#8, some 4#3, ofRm .shl_D2_4),
   (.one 0xD2#8, some 5#3, ofRm .shr_D2_5),
   (.one 0xD2#8, some 7#3, ofRm .sar_D2_7),
   (.one 0xD3#8, some 0#3, ofRm .rol_D3_0),
   (.one 0xD3#8, some 1#3, ofRm .ror_D3_1),
   (.one 0xD3#8, some 2#3, ofRm .rcl_D3_2),
   (.one 0xD3#8, some 3#3, ofRm .rcr_D3_3),
   (.one 0xD3#8, some 4#3, ofRm .shl_D3_4),
   (.one 0xD3#8, some 5#3, ofRm .shr_D3_5),
   (.one 0xD3#8, some 7#3, ofRm .sar_D3_7),
   (.one 0xD4#8, none, ofPlain8 .aam_D4),
   (.one 0xD5#8, none, ofPlain8 .aad_D5),
   (.one 0xD7#8, none, ofPlain .xlat_D7),
   (.one 0xD8#8, none, ofPlain (.esc_D8 0#3)),
   (.one 0xD9#8, none, ofPlain (.esc_D8 1#3)),
   (.one 0xDA#8, none, ofPlain (.esc_D8 2#3)),
   (.one 0xDB#8, none, ofPlain (.esc_D8 3#3)),
   (.one 0xDC#8, none, ofPlain (.esc_D8 4#3)),
   (.one 0xDD#8, none, ofPlain (.esc_D8 5#3)),
   (.one 0xDE#8, none, ofPlain (.esc_D8 6#3)),
   (.one 0xDF#8, none, ofPlain (.esc_D8 7#3))]

/-- E0 to EF. -/
def rowsOneE : List Maker :=
  [(.one 0xE0#8, none, ofPlain8 .loopne_E0),
   (.one 0xE1#8, none, ofPlain8 .loope_E1),
   (.one 0xE2#8, none, ofPlain8 .loop_E2),
   (.one 0xE3#8, none, ofPlain8 .jcxz_E3),
   (.one 0xE4#8, none, ofPlain8 .in_E4),
   (.one 0xE5#8, none, ofPlain8 .in_E5),
   (.one 0xE6#8, none, ofPlain8 .out_E6),
   (.one 0xE7#8, none, ofPlain8 .out_E7),
   (.one 0xE8#8, none, ofPlainF .call_E8),
   (.one 0xE9#8, none, ofPlainF .jmp_E9),
   (.one 0xEA#8, none, ofPlainF16 .jmpf_EA),
   (.one 0xEB#8, none, ofPlain8 .jmp_EB),
   (.one 0xEC#8, none, ofPlain .in_EC),
   (.one 0xED#8, none, ofPlain .in_ED),
   (.one 0xEE#8, none, ofPlain .out_EE),
   (.one 0xEF#8, none, ofPlain .out_EF)]

/-- F0 to FF. -/
def rowsOneF : List Maker :=
  [(.one 0xF4#8, none, ofPlain .hlt_F4),
   (.one 0xF5#8, none, ofPlain .cmc_F5),
   (.one 0xF6#8, some 0#3, ofRm8 .test_F6_0),
   (.one 0xF6#8, some 2#3, ofRm .not_F6_2),
   (.one 0xF6#8, some 3#3, ofRm .neg_F6_3),
   (.one 0xF6#8, some 4#3, ofRm .mul_F6_4),
   (.one 0xF6#8, some 5#3, ofRm .imul_F6_5),
   (.one 0xF6#8, some 6#3, ofRm .div_F6_6),
   (.one 0xF6#8, some 7#3, ofRm .idiv_F6_7),
   (.one 0xF7#8, some 0#3, ofRmF .test_F7_0),
   (.one 0xF7#8, some 2#3, ofRm .not_F7_2),
   (.one 0xF7#8, some 3#3, ofRm .neg_F7_3),
   (.one 0xF7#8, some 4#3, ofRm .mul_F7_4),
   (.one 0xF7#8, some 5#3, ofRm .imul_F7_5),
   (.one 0xF7#8, some 6#3, ofRm .div_F7_6),
   (.one 0xF7#8, some 7#3, ofRm .idiv_F7_7),
   (.one 0xF8#8, none, ofPlain .clc_F8),
   (.one 0xF9#8, none, ofPlain .stc_F9),
   (.one 0xFA#8, none, ofPlain .cli_FA),
   (.one 0xFB#8, none, ofPlain .sti_FB),
   (.one 0xFC#8, none, ofPlain .cld_FC),
   (.one 0xFD#8, none, ofPlain .std_FD),
   (.one 0xFE#8, some 0#3, ofRm .inc_FE_0),
   (.one 0xFE#8, some 1#3, ofRm .dec_FE_1),
   (.one 0xFF#8, some 0#3, ofRm .inc_FF_0),
   (.one 0xFF#8, some 1#3, ofRm .dec_FF_1),
   (.one 0xFF#8, some 2#3, ofRm .call_FF_2),
   (.one 0xFF#8, some 3#3, ofRm .callf_FF_3),
   (.one 0xFF#8, some 4#3, ofRm .jmp_FF_4),
   (.one 0xFF#8, some 5#3, ofRm .jmpf_FF_5),
   (.one 0xFF#8, some 6#3, ofRm .push_FF_6)]

/-- 0F 00 to 0F 0F. -/
def rowsTwo0 : List Maker :=
  [(.two 0x00#8, some 0#3, ofRm .sldt_0F00_0),
   (.two 0x00#8, some 1#3, ofRm .str_0F00_1),
   (.two 0x00#8, some 2#3, ofRm .lldt_0F00_2),
   (.two 0x00#8, some 3#3, ofRm .ltr_0F00_3),
   (.two 0x00#8, some 4#3, ofRm .verr_0F00_4),
   (.two 0x00#8, some 5#3, ofRm .verw_0F00_5),
   (.two 0x01#8, some 0#3, ofRm .sgdt_0F01_0),
   (.two 0x01#8, some 1#3, ofRm .sidt_0F01_1),
   (.two 0x01#8, some 2#3, ofRm .lgdt_0F01_2),
   (.two 0x01#8, some 3#3, ofRm .lidt_0F01_3),
   (.two 0x01#8, some 4#3, ofRm .smsw_0F01_4),
   (.two 0x01#8, some 6#3, ofRm .lmsw_0F01_6),
   (.two 0x02#8, none, ofReg .lar_0F02),
   (.two 0x03#8, none, ofReg .lsl_0F03),
   (.two 0x06#8, none, ofPlain .clts_0F06)]

/-- 0F 20 to 0F 2F. -/
def rowsTwo2 : List Maker :=
  [(.two 0x20#8, none, ofLone .mov_0F20),
   (.two 0x21#8, none, ofLone .mov_0F21),
   (.two 0x22#8, none, ofLone .mov_0F22),
   (.two 0x23#8, none, ofLone .mov_0F23),
   (.two 0x24#8, none, ofLone .mov_0F24),
   (.two 0x26#8, none, ofLone .mov_0F26)]

/-- 0F 80 to 0F 8F. -/
def rowsTwo8 : List Maker :=
  [(.two 0x80#8, none, ofPlainF .jo_0F80),
   (.two 0x81#8, none, ofPlainF .jno_0F81),
   (.two 0x82#8, none, ofPlainF .jb_0F82),
   (.two 0x83#8, none, ofPlainF .jnb_0F83),
   (.two 0x84#8, none, ofPlainF .jz_0F84),
   (.two 0x85#8, none, ofPlainF .jnz_0F85),
   (.two 0x86#8, none, ofPlainF .jbe_0F86),
   (.two 0x87#8, none, ofPlainF .jnbe_0F87),
   (.two 0x88#8, none, ofPlainF .js_0F88),
   (.two 0x89#8, none, ofPlainF .jns_0F89),
   (.two 0x8A#8, none, ofPlainF .jp_0F8A),
   (.two 0x8B#8, none, ofPlainF .jnp_0F8B),
   (.two 0x8C#8, none, ofPlainF .jl_0F8C),
   (.two 0x8D#8, none, ofPlainF .jnl_0F8D),
   (.two 0x8E#8, none, ofPlainF .jle_0F8E),
   (.two 0x8F#8, none, ofPlainF .jnle_0F8F)]

/-- 0F 90 to 0F 9F. -/
def rowsTwo9 : List Maker :=
  [(.two 0x90#8, none, ofReg .seto_0F90),
   (.two 0x91#8, none, ofReg .setno_0F91),
   (.two 0x92#8, none, ofReg .setb_0F92),
   (.two 0x93#8, none, ofReg .setnb_0F93),
   (.two 0x94#8, none, ofReg .setz_0F94),
   (.two 0x95#8, none, ofReg .setnz_0F95),
   (.two 0x96#8, none, ofReg .setbe_0F96),
   (.two 0x97#8, none, ofReg .setnbe_0F97),
   (.two 0x98#8, none, ofReg .sets_0F98),
   (.two 0x99#8, none, ofReg .setns_0F99),
   (.two 0x9A#8, none, ofReg .setp_0F9A),
   (.two 0x9B#8, none, ofReg .setnp_0F9B),
   (.two 0x9C#8, none, ofReg .setl_0F9C),
   (.two 0x9D#8, none, ofReg .setnl_0F9D),
   (.two 0x9E#8, none, ofReg .setle_0F9E),
   (.two 0x9F#8, none, ofReg .setnle_0F9F)]

/-- 0F A0 to 0F AF. -/
def rowsTwoA : List Maker :=
  [(.two 0xA0#8, none, ofPlain .push_0FA0),
   (.two 0xA1#8, none, ofPlain .pop_0FA1),
   (.two 0xA3#8, none, ofReg .bt_0FA3),
   (.two 0xA4#8, none, ofReg8 .shld_0FA4),
   (.two 0xA5#8, none, ofReg .shld_0FA5),
   (.two 0xA8#8, none, ofPlain .push_0FA8),
   (.two 0xA9#8, none, ofPlain .pop_0FA9),
   (.two 0xAB#8, none, ofReg .bts_0FAB),
   (.two 0xAC#8, none, ofReg8 .shrd_0FAC),
   (.two 0xAD#8, none, ofReg .shrd_0FAD),
   (.two 0xAF#8, none, ofReg .imul_0FAF)]

/-- 0F B0 to 0F BF. -/
def rowsTwoB : List Maker :=
  [(.two 0xB2#8, none, ofReg .lss_0FB2),
   (.two 0xB3#8, none, ofReg .btr_0FB3),
   (.two 0xB4#8, none, ofReg .lfs_0FB4),
   (.two 0xB5#8, none, ofReg .lgs_0FB5),
   (.two 0xB6#8, none, ofReg .movzx_0FB6),
   (.two 0xB7#8, none, ofReg .movzx_0FB7),
   (.two 0xBA#8, some 4#3, ofRm8 .bt_0FBA_4),
   (.two 0xBA#8, some 5#3, ofRm8 .bts_0FBA_5),
   (.two 0xBA#8, some 6#3, ofRm8 .btr_0FBA_6),
   (.two 0xBA#8, some 7#3, ofRm8 .btc_0FBA_7),
   (.two 0xBB#8, none, ofReg .btc_0FBB),
   (.two 0xBC#8, none, ofReg .bsf_0FBC),
   (.two 0xBD#8, none, ofReg .bsr_0FBD),
   (.two 0xBE#8, none, ofReg .movsx_0FBE),
   (.two 0xBF#8, none, ofReg .movsx_0FBF)]

/-- The one-byte rows. -/
def rowsOne : List Maker :=
  rowsOne0 ++ (rowsOne1 ++ (rowsOne2 ++ (rowsOne3 ++ (rowsOne4 ++ (rowsOne5 ++ (rowsOne6 ++
    (rowsOne7 ++ (rowsOne8 ++ (rowsOne9 ++ (rowsOneA ++ (rowsOneB ++ (rowsOneC ++ (rowsOneD ++
    (rowsOneE ++ (rowsOneF)))))))))))))))

/-- The two-byte rows. -/
def rowsTwo : List Maker :=
  rowsTwo0 ++ (rowsTwo2 ++ (rowsTwo8 ++ (rowsTwo9 ++ (rowsTwoA ++ (rowsTwoB)))))

/-- The constructor of the row at that key and slot, from its fields. -/
def Instr.ofFields (k : Key) (slot : Option (BitVec 3)) (f : Fields) : Option Instr :=
  match (match k with | .one _ => rowsOne | .two _ => rowsTwo).find?
      fun m : Maker => decide (m.1 = k) && decide (m.2.1 = slot) with
  | some m => m.2.2 f
  | none => none

/-- The row of a prefix byte (R92) or of the escape (R93): a byte the lookup never sees (R167). -/
def scannerRow? (b : Byte) : Option Instr :=
  if b = 0x26#8 then some .prefixES else if b = 0x2E#8 then some .prefixCS
  else if b = 0x36#8 then some .prefixSS else if b = 0x3E#8 then some .prefixDS
  else if b = 0x64#8 then some .prefixFS else if b = 0x65#8 then some .prefixGS
  else if b = 0x66#8 then some .prefixOPSIZE else if b = 0x67#8 then some .prefixADDRSIZE
  else if b = 0xF0#8 then some .prefixLOCK else if b = 0xF2#8 then some .prefixREPNE
  else if b = 0xF3#8 then some .prefixREP else if b = 0x0F#8 then some .escape0F
  else none

/-- The row of a key the default table leaves unassigned (R669, R670). -/
def unassignedRow? : Key → Option Instr
  | .one b => if unassignedOne.contains b then some (.unassignedOneByte b) else none
  | .two b => if isUnassignedTwo b then some (.unassignedTwoByte b) else none

/-! ## The decoder -/

/-- The descriptor a table has at a key and, in a group, a slot (R31, R162). -/
def OpcodeTable.descriptor? (t : OpcodeTable) (k : Key) (slot : Option (BitVec 3)) : Option OpcodeDescriptor :=
  match t.find k, slot with
  | some (.desc d), none => some d
  | some (.group slots), some r => (slots[r.toNat]?).join
  | _, _ => none

/-- Names the row: a constructor where key, slot and descriptor are the default table's, else a row of
the configured table. -/
def nameRow (k : Key) (slot : Option (BitVec 3)) (d : OpcodeDescriptor) (f : Fields) : Decoded :=
  if defaultTable.descriptor? k slot = some d then
    match Instr.ofFields k slot f with
    | some i => .row i
    | none => .configured k d f
  else .configured k d f

/-- A final descriptor: an Fpu spec reads nothing (R165), any other reads its fields. -/
def decodeDescriptor (a : Attrs) (k : Key) (slot : Option (BitVec 3)) (d : OpcodeDescriptor) (bs : List Byte) :
    Except DecodeError (Decoded × List Byte) :=
  if d.specs.any Spec.isFpu then .ok (nameRow k slot d (.plain []), bs)
  else
    match readFields a k slot.isSome d 1 bs with
    | .ok (f, rest) => .ok (nameRow k slot d f, rest)
    | .error e => .error e

/-- Lookup, and the peek of a group's ModRM byte (R163, R162); `bs` are the bytes after the key. -/
def decodeKey (t : OpcodeTable) (a : Attrs) (k : Key) (bs : List Byte) :
    Except DecodeError (Decoded × List Byte) :=
  match t.find k with
  | none =>
    match unassignedRow? k with
    | some i => .ok (.row i, bs)
    | none => .error (.unassigned k)
  | some (.desc d) => decodeDescriptor a k none d bs
  | some (.group slots) =>
    match bs with
    | [] => .error (.truncated .modrm 1 [])
    | m :: _ =>
      let slot := (ModRM.ofByte m).reg
      match (slots[slot.toNat]?).join with
      | some d => decodeDescriptor a k (some slot) d bs
      | none => .error (.emptySlot k m)

/-- One row: in the one-byte map a prefix byte, the escape or an opcode; in the two-byte map the
opcode byte after the escape (R140, R149, R161). -/
def decodeRow (t : OpcodeTable) (map : OpMap) (a : Attrs) (bs : List Byte) :
    Except DecodeError (Decoded × List Byte) :=
  match bs with
  | [] => .error (.truncated .opcode 0 [])
  | b :: rest =>
    match map with
    | .oneByte =>
      match scannerRow? b with
      | some i => .ok (.row i, rest)
      | none => decodeKey t a (.one b) rest
    | .twoByte => decodeKey t a (.two b) rest

/-- One row of the default table from its whole opcode, the escape included: `0F b` is a row of the
two-byte map, a `0F` with nothing after it is the escape row. -/
def decode (a : Attrs) : List Byte → Except DecodeError (Decoded × List Byte)
  | 0x0F#8 :: b :: rest => decodeRow defaultTable .twoByte a (b :: rest)
  | bs => decodeRow defaultTable .oneByte a bs

/-! ## The encoder -/

/-- The key, the group slot and the fields of an instruction. -/
structure RowParts where
  key : Key
  slot : Option (BitVec 3)
  fields : Fields
deriving DecidableEq, Repr

/-- Each row's opcode byte, slot and fields, from the spec's encoding of it. -/
def Instr.parts : Instr → RowParts
  | .prefixES => ⟨.one 0x26#8, none, .plain []⟩
  | .prefixCS => ⟨.one 0x2E#8, none, .plain []⟩
  | .prefixSS => ⟨.one 0x36#8, none, .plain []⟩
  | .prefixDS => ⟨.one 0x3E#8, none, .plain []⟩
  | .prefixFS => ⟨.one 0x64#8, none, .plain []⟩
  | .prefixGS => ⟨.one 0x65#8, none, .plain []⟩
  | .prefixOPSIZE => ⟨.one 0x66#8, none, .plain []⟩
  | .prefixADDRSIZE => ⟨.one 0x67#8, none, .plain []⟩
  | .prefixLOCK => ⟨.one 0xF0#8, none, .plain []⟩
  | .prefixREPNE => ⟨.one 0xF2#8, none, .plain []⟩
  | .prefixREP => ⟨.one 0xF3#8, none, .plain []⟩
  | .escape0F => ⟨.one 0x0F#8, none, .plain []⟩
  | .add_00 reg e => ⟨.one 0x00#8, none, .block reg e []⟩
  | .add_01 reg e => ⟨.one 0x01#8, none, .block reg e []⟩
  | .add_02 reg e => ⟨.one 0x02#8, none, .block reg e []⟩
  | .add_03 reg e => ⟨.one 0x03#8, none, .block reg e []⟩
  | .add_04 imm => ⟨.one 0x04#8, none, .plain [.f8 imm]⟩
  | .add_05 imm => ⟨.one 0x05#8, none, .plain [imm]⟩
  | .push_06 => ⟨.one 0x06#8, none, .plain []⟩
  | .pop_07 => ⟨.one 0x07#8, none, .plain []⟩
  | .or_08 reg e => ⟨.one 0x08#8, none, .block reg e []⟩
  | .or_09 reg e => ⟨.one 0x09#8, none, .block reg e []⟩
  | .or_0A reg e => ⟨.one 0x0A#8, none, .block reg e []⟩
  | .or_0B reg e => ⟨.one 0x0B#8, none, .block reg e []⟩
  | .or_0C imm => ⟨.one 0x0C#8, none, .plain [.f8 imm]⟩
  | .or_0D imm => ⟨.one 0x0D#8, none, .plain [imm]⟩
  | .push_0E => ⟨.one 0x0E#8, none, .plain []⟩
  | .adc_10 reg e => ⟨.one 0x10#8, none, .block reg e []⟩
  | .adc_11 reg e => ⟨.one 0x11#8, none, .block reg e []⟩
  | .adc_12 reg e => ⟨.one 0x12#8, none, .block reg e []⟩
  | .adc_13 reg e => ⟨.one 0x13#8, none, .block reg e []⟩
  | .adc_14 imm => ⟨.one 0x14#8, none, .plain [.f8 imm]⟩
  | .adc_15 imm => ⟨.one 0x15#8, none, .plain [imm]⟩
  | .push_16 => ⟨.one 0x16#8, none, .plain []⟩
  | .pop_17 => ⟨.one 0x17#8, none, .plain []⟩
  | .sbb_18 reg e => ⟨.one 0x18#8, none, .block reg e []⟩
  | .sbb_19 reg e => ⟨.one 0x19#8, none, .block reg e []⟩
  | .sbb_1A reg e => ⟨.one 0x1A#8, none, .block reg e []⟩
  | .sbb_1B reg e => ⟨.one 0x1B#8, none, .block reg e []⟩
  | .sbb_1C imm => ⟨.one 0x1C#8, none, .plain [.f8 imm]⟩
  | .sbb_1D imm => ⟨.one 0x1D#8, none, .plain [imm]⟩
  | .push_1E => ⟨.one 0x1E#8, none, .plain []⟩
  | .pop_1F => ⟨.one 0x1F#8, none, .plain []⟩
  | .and_20 reg e => ⟨.one 0x20#8, none, .block reg e []⟩
  | .and_21 reg e => ⟨.one 0x21#8, none, .block reg e []⟩
  | .and_22 reg e => ⟨.one 0x22#8, none, .block reg e []⟩
  | .and_23 reg e => ⟨.one 0x23#8, none, .block reg e []⟩
  | .and_24 imm => ⟨.one 0x24#8, none, .plain [.f8 imm]⟩
  | .and_25 imm => ⟨.one 0x25#8, none, .plain [imm]⟩
  | .daa_27 => ⟨.one 0x27#8, none, .plain []⟩
  | .sub_28 reg e => ⟨.one 0x28#8, none, .block reg e []⟩
  | .sub_29 reg e => ⟨.one 0x29#8, none, .block reg e []⟩
  | .sub_2A reg e => ⟨.one 0x2A#8, none, .block reg e []⟩
  | .sub_2B reg e => ⟨.one 0x2B#8, none, .block reg e []⟩
  | .sub_2C imm => ⟨.one 0x2C#8, none, .plain [.f8 imm]⟩
  | .sub_2D imm => ⟨.one 0x2D#8, none, .plain [imm]⟩
  | .das_2F => ⟨.one 0x2F#8, none, .plain []⟩
  | .xor_30 reg e => ⟨.one 0x30#8, none, .block reg e []⟩
  | .xor_31 reg e => ⟨.one 0x31#8, none, .block reg e []⟩
  | .xor_32 reg e => ⟨.one 0x32#8, none, .block reg e []⟩
  | .xor_33 reg e => ⟨.one 0x33#8, none, .block reg e []⟩
  | .xor_34 imm => ⟨.one 0x34#8, none, .plain [.f8 imm]⟩
  | .xor_35 imm => ⟨.one 0x35#8, none, .plain [imm]⟩
  | .aaa_37 => ⟨.one 0x37#8, none, .plain []⟩
  | .cmp_38 reg e => ⟨.one 0x38#8, none, .block reg e []⟩
  | .cmp_39 reg e => ⟨.one 0x39#8, none, .block reg e []⟩
  | .cmp_3A reg e => ⟨.one 0x3A#8, none, .block reg e []⟩
  | .cmp_3B reg e => ⟨.one 0x3B#8, none, .block reg e []⟩
  | .cmp_3C imm => ⟨.one 0x3C#8, none, .plain [.f8 imm]⟩
  | .cmp_3D imm => ⟨.one 0x3D#8, none, .plain [imm]⟩
  | .aas_3F => ⟨.one 0x3F#8, none, .plain []⟩
  | .inc_40 r => ⟨.one (opcodeReg 0x40#8 r), none, .plain []⟩
  | .dec_48 r => ⟨.one (opcodeReg 0x48#8 r), none, .plain []⟩
  | .push_50 r => ⟨.one (opcodeReg 0x50#8 r), none, .plain []⟩
  | .pop_58 r => ⟨.one (opcodeReg 0x58#8 r), none, .plain []⟩
  | .pusha_60 => ⟨.one 0x60#8, none, .plain []⟩
  | .popa_61 => ⟨.one 0x61#8, none, .plain []⟩
  | .bound_62 reg e => ⟨.one 0x62#8, none, .block reg e []⟩
  | .arpl_63 reg e => ⟨.one 0x63#8, none, .block reg e []⟩
  | .push_68 imm => ⟨.one 0x68#8, none, .plain [imm]⟩
  | .imul_69 reg e imm => ⟨.one 0x69#8, none, .block reg e [imm]⟩
  | .push_6A imm => ⟨.one 0x6A#8, none, .plain [.f8 imm]⟩
  | .imul_6B reg e imm => ⟨.one 0x6B#8, none, .block reg e [.f8 imm]⟩
  | .insb_6C => ⟨.one 0x6C#8, none, .plain []⟩
  | .insw_6D => ⟨.one 0x6D#8, none, .plain []⟩
  | .outsb_6E => ⟨.one 0x6E#8, none, .plain []⟩
  | .outsw_6F => ⟨.one 0x6F#8, none, .plain []⟩
  | .jo_70 rel => ⟨.one 0x70#8, none, .plain [.f8 rel]⟩
  | .jno_71 rel => ⟨.one 0x71#8, none, .plain [.f8 rel]⟩
  | .jb_72 rel => ⟨.one 0x72#8, none, .plain [.f8 rel]⟩
  | .jnb_73 rel => ⟨.one 0x73#8, none, .plain [.f8 rel]⟩
  | .jz_74 rel => ⟨.one 0x74#8, none, .plain [.f8 rel]⟩
  | .jnz_75 rel => ⟨.one 0x75#8, none, .plain [.f8 rel]⟩
  | .jbe_76 rel => ⟨.one 0x76#8, none, .plain [.f8 rel]⟩
  | .jnbe_77 rel => ⟨.one 0x77#8, none, .plain [.f8 rel]⟩
  | .js_78 rel => ⟨.one 0x78#8, none, .plain [.f8 rel]⟩
  | .jns_79 rel => ⟨.one 0x79#8, none, .plain [.f8 rel]⟩
  | .jp_7A rel => ⟨.one 0x7A#8, none, .plain [.f8 rel]⟩
  | .jnp_7B rel => ⟨.one 0x7B#8, none, .plain [.f8 rel]⟩
  | .jl_7C rel => ⟨.one 0x7C#8, none, .plain [.f8 rel]⟩
  | .jnl_7D rel => ⟨.one 0x7D#8, none, .plain [.f8 rel]⟩
  | .jle_7E rel => ⟨.one 0x7E#8, none, .plain [.f8 rel]⟩
  | .jnle_7F rel => ⟨.one 0x7F#8, none, .plain [.f8 rel]⟩
  | .add_80_0 e imm => ⟨.one 0x80#8, some 0#3, .block 0#3 e [.f8 imm]⟩
  | .or_80_1 e imm => ⟨.one 0x80#8, some 1#3, .block 1#3 e [.f8 imm]⟩
  | .adc_80_2 e imm => ⟨.one 0x80#8, some 2#3, .block 2#3 e [.f8 imm]⟩
  | .sbb_80_3 e imm => ⟨.one 0x80#8, some 3#3, .block 3#3 e [.f8 imm]⟩
  | .and_80_4 e imm => ⟨.one 0x80#8, some 4#3, .block 4#3 e [.f8 imm]⟩
  | .sub_80_5 e imm => ⟨.one 0x80#8, some 5#3, .block 5#3 e [.f8 imm]⟩
  | .xor_80_6 e imm => ⟨.one 0x80#8, some 6#3, .block 6#3 e [.f8 imm]⟩
  | .cmp_80_7 e imm => ⟨.one 0x80#8, some 7#3, .block 7#3 e [.f8 imm]⟩
  | .add_81_0 e imm => ⟨.one 0x81#8, some 0#3, .block 0#3 e [imm]⟩
  | .or_81_1 e imm => ⟨.one 0x81#8, some 1#3, .block 1#3 e [imm]⟩
  | .adc_81_2 e imm => ⟨.one 0x81#8, some 2#3, .block 2#3 e [imm]⟩
  | .sbb_81_3 e imm => ⟨.one 0x81#8, some 3#3, .block 3#3 e [imm]⟩
  | .and_81_4 e imm => ⟨.one 0x81#8, some 4#3, .block 4#3 e [imm]⟩
  | .sub_81_5 e imm => ⟨.one 0x81#8, some 5#3, .block 5#3 e [imm]⟩
  | .xor_81_6 e imm => ⟨.one 0x81#8, some 6#3, .block 6#3 e [imm]⟩
  | .cmp_81_7 e imm => ⟨.one 0x81#8, some 7#3, .block 7#3 e [imm]⟩
  | .add_82_0 e imm => ⟨.one 0x82#8, some 0#3, .block 0#3 e [.f8 imm]⟩
  | .or_82_1 e imm => ⟨.one 0x82#8, some 1#3, .block 1#3 e [.f8 imm]⟩
  | .adc_82_2 e imm => ⟨.one 0x82#8, some 2#3, .block 2#3 e [.f8 imm]⟩
  | .sbb_82_3 e imm => ⟨.one 0x82#8, some 3#3, .block 3#3 e [.f8 imm]⟩
  | .and_82_4 e imm => ⟨.one 0x82#8, some 4#3, .block 4#3 e [.f8 imm]⟩
  | .sub_82_5 e imm => ⟨.one 0x82#8, some 5#3, .block 5#3 e [.f8 imm]⟩
  | .xor_82_6 e imm => ⟨.one 0x82#8, some 6#3, .block 6#3 e [.f8 imm]⟩
  | .cmp_82_7 e imm => ⟨.one 0x82#8, some 7#3, .block 7#3 e [.f8 imm]⟩
  | .add_83_0 e imm => ⟨.one 0x83#8, some 0#3, .block 0#3 e [.f8 imm]⟩
  | .or_83_1 e imm => ⟨.one 0x83#8, some 1#3, .block 1#3 e [.f8 imm]⟩
  | .adc_83_2 e imm => ⟨.one 0x83#8, some 2#3, .block 2#3 e [.f8 imm]⟩
  | .sbb_83_3 e imm => ⟨.one 0x83#8, some 3#3, .block 3#3 e [.f8 imm]⟩
  | .and_83_4 e imm => ⟨.one 0x83#8, some 4#3, .block 4#3 e [.f8 imm]⟩
  | .sub_83_5 e imm => ⟨.one 0x83#8, some 5#3, .block 5#3 e [.f8 imm]⟩
  | .xor_83_6 e imm => ⟨.one 0x83#8, some 6#3, .block 6#3 e [.f8 imm]⟩
  | .cmp_83_7 e imm => ⟨.one 0x83#8, some 7#3, .block 7#3 e [.f8 imm]⟩
  | .test_84 reg e => ⟨.one 0x84#8, none, .block reg e []⟩
  | .test_85 reg e => ⟨.one 0x85#8, none, .block reg e []⟩
  | .xchg_86 reg e => ⟨.one 0x86#8, none, .block reg e []⟩
  | .xchg_87 reg e => ⟨.one 0x87#8, none, .block reg e []⟩
  | .mov_88 reg e => ⟨.one 0x88#8, none, .block reg e []⟩
  | .mov_89 reg e => ⟨.one 0x89#8, none, .block reg e []⟩
  | .mov_8A reg e => ⟨.one 0x8A#8, none, .block reg e []⟩
  | .mov_8B reg e => ⟨.one 0x8B#8, none, .block reg e []⟩
  | .mov_8C reg e => ⟨.one 0x8C#8, none, .block reg e []⟩
  | .lea_8D reg e => ⟨.one 0x8D#8, none, .block reg e []⟩
  | .mov_8E reg e => ⟨.one 0x8E#8, none, .block reg e []⟩
  | .pop_8F_0 e => ⟨.one 0x8F#8, some 0#3, .block 0#3 e []⟩
  | .nop_90 => ⟨.one 0x90#8, none, .plain []⟩
  | .xchg_91 => ⟨.one 0x91#8, none, .plain []⟩
  | .xchg_92 => ⟨.one 0x92#8, none, .plain []⟩
  | .xchg_93 => ⟨.one 0x93#8, none, .plain []⟩
  | .xchg_94 => ⟨.one 0x94#8, none, .plain []⟩
  | .xchg_95 => ⟨.one 0x95#8, none, .plain []⟩
  | .xchg_96 => ⟨.one 0x96#8, none, .plain []⟩
  | .xchg_97 => ⟨.one 0x97#8, none, .plain []⟩
  | .cbw_98 => ⟨.one 0x98#8, none, .plain []⟩
  | .cwd_99 => ⟨.one 0x99#8, none, .plain []⟩
  | .callf_9A off sel => ⟨.one 0x9A#8, none, .plain [off, .f16 sel]⟩
  | .wait_9B => ⟨.one 0x9B#8, none, .plain []⟩
  | .pushf_9C => ⟨.one 0x9C#8, none, .plain []⟩
  | .popf_9D => ⟨.one 0x9D#8, none, .plain []⟩
  | .sahf_9E => ⟨.one 0x9E#8, none, .plain []⟩
  | .lahf_9F => ⟨.one 0x9F#8, none, .plain []⟩
  | .mov_A0 off => ⟨.one 0xA0#8, none, .plain [off]⟩
  | .mov_A1 off => ⟨.one 0xA1#8, none, .plain [off]⟩
  | .mov_A2 off => ⟨.one 0xA2#8, none, .plain [off]⟩
  | .mov_A3 off => ⟨.one 0xA3#8, none, .plain [off]⟩
  | .movsb_A4 => ⟨.one 0xA4#8, none, .plain []⟩
  | .movsw_A5 => ⟨.one 0xA5#8, none, .plain []⟩
  | .cmpsb_A6 => ⟨.one 0xA6#8, none, .plain []⟩
  | .cmpsw_A7 => ⟨.one 0xA7#8, none, .plain []⟩
  | .test_A8 imm => ⟨.one 0xA8#8, none, .plain [.f8 imm]⟩
  | .test_A9 imm => ⟨.one 0xA9#8, none, .plain [imm]⟩
  | .stosb_AA => ⟨.one 0xAA#8, none, .plain []⟩
  | .stosw_AB => ⟨.one 0xAB#8, none, .plain []⟩
  | .lodsb_AC => ⟨.one 0xAC#8, none, .plain []⟩
  | .lodsw_AD => ⟨.one 0xAD#8, none, .plain []⟩
  | .scasb_AE => ⟨.one 0xAE#8, none, .plain []⟩
  | .scasw_AF => ⟨.one 0xAF#8, none, .plain []⟩
  | .mov_B0 r imm => ⟨.one (opcodeReg 0xB0#8 r), none, .plain [.f8 imm]⟩
  | .mov_B8 r imm => ⟨.one (opcodeReg 0xB8#8 r), none, .plain [imm]⟩
  | .rol_C0_0 e imm => ⟨.one 0xC0#8, some 0#3, .block 0#3 e [.f8 imm]⟩
  | .ror_C0_1 e imm => ⟨.one 0xC0#8, some 1#3, .block 1#3 e [.f8 imm]⟩
  | .rcl_C0_2 e imm => ⟨.one 0xC0#8, some 2#3, .block 2#3 e [.f8 imm]⟩
  | .rcr_C0_3 e imm => ⟨.one 0xC0#8, some 3#3, .block 3#3 e [.f8 imm]⟩
  | .shl_C0_4 e imm => ⟨.one 0xC0#8, some 4#3, .block 4#3 e [.f8 imm]⟩
  | .shr_C0_5 e imm => ⟨.one 0xC0#8, some 5#3, .block 5#3 e [.f8 imm]⟩
  | .sar_C0_7 e imm => ⟨.one 0xC0#8, some 7#3, .block 7#3 e [.f8 imm]⟩
  | .rol_C1_0 e imm => ⟨.one 0xC1#8, some 0#3, .block 0#3 e [.f8 imm]⟩
  | .ror_C1_1 e imm => ⟨.one 0xC1#8, some 1#3, .block 1#3 e [.f8 imm]⟩
  | .rcl_C1_2 e imm => ⟨.one 0xC1#8, some 2#3, .block 2#3 e [.f8 imm]⟩
  | .rcr_C1_3 e imm => ⟨.one 0xC1#8, some 3#3, .block 3#3 e [.f8 imm]⟩
  | .shl_C1_4 e imm => ⟨.one 0xC1#8, some 4#3, .block 4#3 e [.f8 imm]⟩
  | .shr_C1_5 e imm => ⟨.one 0xC1#8, some 5#3, .block 5#3 e [.f8 imm]⟩
  | .sar_C1_7 e imm => ⟨.one 0xC1#8, some 7#3, .block 7#3 e [.f8 imm]⟩
  | .ret_C2 imm => ⟨.one 0xC2#8, none, .plain [.f16 imm]⟩
  | .ret_C3 => ⟨.one 0xC3#8, none, .plain []⟩
  | .les_C4 reg e => ⟨.one 0xC4#8, none, .block reg e []⟩
  | .lds_C5 reg e => ⟨.one 0xC5#8, none, .block reg e []⟩
  | .mov_C6_0 e imm => ⟨.one 0xC6#8, some 0#3, .block 0#3 e [.f8 imm]⟩
  | .mov_C7_0 e imm => ⟨.one 0xC7#8, some 0#3, .block 0#3 e [imm]⟩
  | .enter_C8 size level => ⟨.one 0xC8#8, none, .plain [.f16 size, .f8 level]⟩
  | .leave_C9 => ⟨.one 0xC9#8, none, .plain []⟩
  | .retf_CA imm => ⟨.one 0xCA#8, none, .plain [.f16 imm]⟩
  | .retf_CB => ⟨.one 0xCB#8, none, .plain []⟩
  | .int3_CC => ⟨.one 0xCC#8, none, .plain []⟩
  | .int_CD imm => ⟨.one 0xCD#8, none, .plain [.f8 imm]⟩
  | .into_CE => ⟨.one 0xCE#8, none, .plain []⟩
  | .iret_CF => ⟨.one 0xCF#8, none, .plain []⟩
  | .rol_D0_0 e => ⟨.one 0xD0#8, some 0#3, .block 0#3 e []⟩
  | .ror_D0_1 e => ⟨.one 0xD0#8, some 1#3, .block 1#3 e []⟩
  | .rcl_D0_2 e => ⟨.one 0xD0#8, some 2#3, .block 2#3 e []⟩
  | .rcr_D0_3 e => ⟨.one 0xD0#8, some 3#3, .block 3#3 e []⟩
  | .shl_D0_4 e => ⟨.one 0xD0#8, some 4#3, .block 4#3 e []⟩
  | .shr_D0_5 e => ⟨.one 0xD0#8, some 5#3, .block 5#3 e []⟩
  | .sar_D0_7 e => ⟨.one 0xD0#8, some 7#3, .block 7#3 e []⟩
  | .rol_D1_0 e => ⟨.one 0xD1#8, some 0#3, .block 0#3 e []⟩
  | .ror_D1_1 e => ⟨.one 0xD1#8, some 1#3, .block 1#3 e []⟩
  | .rcl_D1_2 e => ⟨.one 0xD1#8, some 2#3, .block 2#3 e []⟩
  | .rcr_D1_3 e => ⟨.one 0xD1#8, some 3#3, .block 3#3 e []⟩
  | .shl_D1_4 e => ⟨.one 0xD1#8, some 4#3, .block 4#3 e []⟩
  | .shr_D1_5 e => ⟨.one 0xD1#8, some 5#3, .block 5#3 e []⟩
  | .sar_D1_7 e => ⟨.one 0xD1#8, some 7#3, .block 7#3 e []⟩
  | .rol_D2_0 e => ⟨.one 0xD2#8, some 0#3, .block 0#3 e []⟩
  | .ror_D2_1 e => ⟨.one 0xD2#8, some 1#3, .block 1#3 e []⟩
  | .rcl_D2_2 e => ⟨.one 0xD2#8, some 2#3, .block 2#3 e []⟩
  | .rcr_D2_3 e => ⟨.one 0xD2#8, some 3#3, .block 3#3 e []⟩
  | .shl_D2_4 e => ⟨.one 0xD2#8, some 4#3, .block 4#3 e []⟩
  | .shr_D2_5 e => ⟨.one 0xD2#8, some 5#3, .block 5#3 e []⟩
  | .sar_D2_7 e => ⟨.one 0xD2#8, some 7#3, .block 7#3 e []⟩
  | .rol_D3_0 e => ⟨.one 0xD3#8, some 0#3, .block 0#3 e []⟩
  | .ror_D3_1 e => ⟨.one 0xD3#8, some 1#3, .block 1#3 e []⟩
  | .rcl_D3_2 e => ⟨.one 0xD3#8, some 2#3, .block 2#3 e []⟩
  | .rcr_D3_3 e => ⟨.one 0xD3#8, some 3#3, .block 3#3 e []⟩
  | .shl_D3_4 e => ⟨.one 0xD3#8, some 4#3, .block 4#3 e []⟩
  | .shr_D3_5 e => ⟨.one 0xD3#8, some 5#3, .block 5#3 e []⟩
  | .sar_D3_7 e => ⟨.one 0xD3#8, some 7#3, .block 7#3 e []⟩
  | .aam_D4 imm => ⟨.one 0xD4#8, none, .plain [.f8 imm]⟩
  | .aad_D5 imm => ⟨.one 0xD5#8, none, .plain [.f8 imm]⟩
  | .xlat_D7 => ⟨.one 0xD7#8, none, .plain []⟩
  | .esc_D8 r => ⟨.one (opcodeReg 0xD8#8 r), none, .plain []⟩
  | .loopne_E0 rel => ⟨.one 0xE0#8, none, .plain [.f8 rel]⟩
  | .loope_E1 rel => ⟨.one 0xE1#8, none, .plain [.f8 rel]⟩
  | .loop_E2 rel => ⟨.one 0xE2#8, none, .plain [.f8 rel]⟩
  | .jcxz_E3 rel => ⟨.one 0xE3#8, none, .plain [.f8 rel]⟩
  | .in_E4 imm => ⟨.one 0xE4#8, none, .plain [.f8 imm]⟩
  | .in_E5 imm => ⟨.one 0xE5#8, none, .plain [.f8 imm]⟩
  | .out_E6 imm => ⟨.one 0xE6#8, none, .plain [.f8 imm]⟩
  | .out_E7 imm => ⟨.one 0xE7#8, none, .plain [.f8 imm]⟩
  | .call_E8 rel => ⟨.one 0xE8#8, none, .plain [rel]⟩
  | .jmp_E9 rel => ⟨.one 0xE9#8, none, .plain [rel]⟩
  | .jmpf_EA off sel => ⟨.one 0xEA#8, none, .plain [off, .f16 sel]⟩
  | .jmp_EB rel => ⟨.one 0xEB#8, none, .plain [.f8 rel]⟩
  | .in_EC => ⟨.one 0xEC#8, none, .plain []⟩
  | .in_ED => ⟨.one 0xED#8, none, .plain []⟩
  | .out_EE => ⟨.one 0xEE#8, none, .plain []⟩
  | .out_EF => ⟨.one 0xEF#8, none, .plain []⟩
  | .hlt_F4 => ⟨.one 0xF4#8, none, .plain []⟩
  | .cmc_F5 => ⟨.one 0xF5#8, none, .plain []⟩
  | .test_F6_0 e imm => ⟨.one 0xF6#8, some 0#3, .block 0#3 e [.f8 imm]⟩
  | .not_F6_2 e => ⟨.one 0xF6#8, some 2#3, .block 2#3 e []⟩
  | .neg_F6_3 e => ⟨.one 0xF6#8, some 3#3, .block 3#3 e []⟩
  | .mul_F6_4 e => ⟨.one 0xF6#8, some 4#3, .block 4#3 e []⟩
  | .imul_F6_5 e => ⟨.one 0xF6#8, some 5#3, .block 5#3 e []⟩
  | .div_F6_6 e => ⟨.one 0xF6#8, some 6#3, .block 6#3 e []⟩
  | .idiv_F6_7 e => ⟨.one 0xF6#8, some 7#3, .block 7#3 e []⟩
  | .test_F7_0 e imm => ⟨.one 0xF7#8, some 0#3, .block 0#3 e [imm]⟩
  | .not_F7_2 e => ⟨.one 0xF7#8, some 2#3, .block 2#3 e []⟩
  | .neg_F7_3 e => ⟨.one 0xF7#8, some 3#3, .block 3#3 e []⟩
  | .mul_F7_4 e => ⟨.one 0xF7#8, some 4#3, .block 4#3 e []⟩
  | .imul_F7_5 e => ⟨.one 0xF7#8, some 5#3, .block 5#3 e []⟩
  | .div_F7_6 e => ⟨.one 0xF7#8, some 6#3, .block 6#3 e []⟩
  | .idiv_F7_7 e => ⟨.one 0xF7#8, some 7#3, .block 7#3 e []⟩
  | .clc_F8 => ⟨.one 0xF8#8, none, .plain []⟩
  | .stc_F9 => ⟨.one 0xF9#8, none, .plain []⟩
  | .cli_FA => ⟨.one 0xFA#8, none, .plain []⟩
  | .sti_FB => ⟨.one 0xFB#8, none, .plain []⟩
  | .cld_FC => ⟨.one 0xFC#8, none, .plain []⟩
  | .std_FD => ⟨.one 0xFD#8, none, .plain []⟩
  | .inc_FE_0 e => ⟨.one 0xFE#8, some 0#3, .block 0#3 e []⟩
  | .dec_FE_1 e => ⟨.one 0xFE#8, some 1#3, .block 1#3 e []⟩
  | .inc_FF_0 e => ⟨.one 0xFF#8, some 0#3, .block 0#3 e []⟩
  | .dec_FF_1 e => ⟨.one 0xFF#8, some 1#3, .block 1#3 e []⟩
  | .call_FF_2 e => ⟨.one 0xFF#8, some 2#3, .block 2#3 e []⟩
  | .callf_FF_3 e => ⟨.one 0xFF#8, some 3#3, .block 3#3 e []⟩
  | .jmp_FF_4 e => ⟨.one 0xFF#8, some 4#3, .block 4#3 e []⟩
  | .jmpf_FF_5 e => ⟨.one 0xFF#8, some 5#3, .block 5#3 e []⟩
  | .push_FF_6 e => ⟨.one 0xFF#8, some 6#3, .block 6#3 e []⟩
  | .sldt_0F00_0 e => ⟨.two 0x00#8, some 0#3, .block 0#3 e []⟩
  | .str_0F00_1 e => ⟨.two 0x00#8, some 1#3, .block 1#3 e []⟩
  | .lldt_0F00_2 e => ⟨.two 0x00#8, some 2#3, .block 2#3 e []⟩
  | .ltr_0F00_3 e => ⟨.two 0x00#8, some 3#3, .block 3#3 e []⟩
  | .verr_0F00_4 e => ⟨.two 0x00#8, some 4#3, .block 4#3 e []⟩
  | .verw_0F00_5 e => ⟨.two 0x00#8, some 5#3, .block 5#3 e []⟩
  | .sgdt_0F01_0 e => ⟨.two 0x01#8, some 0#3, .block 0#3 e []⟩
  | .sidt_0F01_1 e => ⟨.two 0x01#8, some 1#3, .block 1#3 e []⟩
  | .lgdt_0F01_2 e => ⟨.two 0x01#8, some 2#3, .block 2#3 e []⟩
  | .lidt_0F01_3 e => ⟨.two 0x01#8, some 3#3, .block 3#3 e []⟩
  | .smsw_0F01_4 e => ⟨.two 0x01#8, some 4#3, .block 4#3 e []⟩
  | .lmsw_0F01_6 e => ⟨.two 0x01#8, some 6#3, .block 6#3 e []⟩
  | .lar_0F02 reg e => ⟨.two 0x02#8, none, .block reg e []⟩
  | .lsl_0F03 reg e => ⟨.two 0x03#8, none, .block reg e []⟩
  | .clts_0F06 => ⟨.two 0x06#8, none, .plain []⟩
  | .mov_0F20 mod reg rm => ⟨.two 0x20#8, none, .lone mod reg rm⟩
  | .mov_0F21 mod reg rm => ⟨.two 0x21#8, none, .lone mod reg rm⟩
  | .mov_0F22 mod reg rm => ⟨.two 0x22#8, none, .lone mod reg rm⟩
  | .mov_0F23 mod reg rm => ⟨.two 0x23#8, none, .lone mod reg rm⟩
  | .mov_0F24 mod reg rm => ⟨.two 0x24#8, none, .lone mod reg rm⟩
  | .mov_0F26 mod reg rm => ⟨.two 0x26#8, none, .lone mod reg rm⟩
  | .jo_0F80 rel => ⟨.two 0x80#8, none, .plain [rel]⟩
  | .jno_0F81 rel => ⟨.two 0x81#8, none, .plain [rel]⟩
  | .jb_0F82 rel => ⟨.two 0x82#8, none, .plain [rel]⟩
  | .jnb_0F83 rel => ⟨.two 0x83#8, none, .plain [rel]⟩
  | .jz_0F84 rel => ⟨.two 0x84#8, none, .plain [rel]⟩
  | .jnz_0F85 rel => ⟨.two 0x85#8, none, .plain [rel]⟩
  | .jbe_0F86 rel => ⟨.two 0x86#8, none, .plain [rel]⟩
  | .jnbe_0F87 rel => ⟨.two 0x87#8, none, .plain [rel]⟩
  | .js_0F88 rel => ⟨.two 0x88#8, none, .plain [rel]⟩
  | .jns_0F89 rel => ⟨.two 0x89#8, none, .plain [rel]⟩
  | .jp_0F8A rel => ⟨.two 0x8A#8, none, .plain [rel]⟩
  | .jnp_0F8B rel => ⟨.two 0x8B#8, none, .plain [rel]⟩
  | .jl_0F8C rel => ⟨.two 0x8C#8, none, .plain [rel]⟩
  | .jnl_0F8D rel => ⟨.two 0x8D#8, none, .plain [rel]⟩
  | .jle_0F8E rel => ⟨.two 0x8E#8, none, .plain [rel]⟩
  | .jnle_0F8F rel => ⟨.two 0x8F#8, none, .plain [rel]⟩
  | .seto_0F90 reg e => ⟨.two 0x90#8, none, .block reg e []⟩
  | .setno_0F91 reg e => ⟨.two 0x91#8, none, .block reg e []⟩
  | .setb_0F92 reg e => ⟨.two 0x92#8, none, .block reg e []⟩
  | .setnb_0F93 reg e => ⟨.two 0x93#8, none, .block reg e []⟩
  | .setz_0F94 reg e => ⟨.two 0x94#8, none, .block reg e []⟩
  | .setnz_0F95 reg e => ⟨.two 0x95#8, none, .block reg e []⟩
  | .setbe_0F96 reg e => ⟨.two 0x96#8, none, .block reg e []⟩
  | .setnbe_0F97 reg e => ⟨.two 0x97#8, none, .block reg e []⟩
  | .sets_0F98 reg e => ⟨.two 0x98#8, none, .block reg e []⟩
  | .setns_0F99 reg e => ⟨.two 0x99#8, none, .block reg e []⟩
  | .setp_0F9A reg e => ⟨.two 0x9A#8, none, .block reg e []⟩
  | .setnp_0F9B reg e => ⟨.two 0x9B#8, none, .block reg e []⟩
  | .setl_0F9C reg e => ⟨.two 0x9C#8, none, .block reg e []⟩
  | .setnl_0F9D reg e => ⟨.two 0x9D#8, none, .block reg e []⟩
  | .setle_0F9E reg e => ⟨.two 0x9E#8, none, .block reg e []⟩
  | .setnle_0F9F reg e => ⟨.two 0x9F#8, none, .block reg e []⟩
  | .push_0FA0 => ⟨.two 0xA0#8, none, .plain []⟩
  | .pop_0FA1 => ⟨.two 0xA1#8, none, .plain []⟩
  | .bt_0FA3 reg e => ⟨.two 0xA3#8, none, .block reg e []⟩
  | .shld_0FA4 reg e imm => ⟨.two 0xA4#8, none, .block reg e [.f8 imm]⟩
  | .shld_0FA5 reg e => ⟨.two 0xA5#8, none, .block reg e []⟩
  | .push_0FA8 => ⟨.two 0xA8#8, none, .plain []⟩
  | .pop_0FA9 => ⟨.two 0xA9#8, none, .plain []⟩
  | .bts_0FAB reg e => ⟨.two 0xAB#8, none, .block reg e []⟩
  | .shrd_0FAC reg e imm => ⟨.two 0xAC#8, none, .block reg e [.f8 imm]⟩
  | .shrd_0FAD reg e => ⟨.two 0xAD#8, none, .block reg e []⟩
  | .imul_0FAF reg e => ⟨.two 0xAF#8, none, .block reg e []⟩
  | .lss_0FB2 reg e => ⟨.two 0xB2#8, none, .block reg e []⟩
  | .btr_0FB3 reg e => ⟨.two 0xB3#8, none, .block reg e []⟩
  | .lfs_0FB4 reg e => ⟨.two 0xB4#8, none, .block reg e []⟩
  | .lgs_0FB5 reg e => ⟨.two 0xB5#8, none, .block reg e []⟩
  | .movzx_0FB6 reg e => ⟨.two 0xB6#8, none, .block reg e []⟩
  | .movzx_0FB7 reg e => ⟨.two 0xB7#8, none, .block reg e []⟩
  | .bt_0FBA_4 e imm => ⟨.two 0xBA#8, some 4#3, .block 4#3 e [.f8 imm]⟩
  | .bts_0FBA_5 e imm => ⟨.two 0xBA#8, some 5#3, .block 5#3 e [.f8 imm]⟩
  | .btr_0FBA_6 e imm => ⟨.two 0xBA#8, some 6#3, .block 6#3 e [.f8 imm]⟩
  | .btc_0FBA_7 e imm => ⟨.two 0xBA#8, some 7#3, .block 7#3 e [.f8 imm]⟩
  | .btc_0FBB reg e => ⟨.two 0xBB#8, none, .block reg e []⟩
  | .bsf_0FBC reg e => ⟨.two 0xBC#8, none, .block reg e []⟩
  | .bsr_0FBD reg e => ⟨.two 0xBD#8, none, .block reg e []⟩
  | .movsx_0FBE reg e => ⟨.two 0xBE#8, none, .block reg e []⟩
  | .movsx_0FBF reg e => ⟨.two 0xBF#8, none, .block reg e []⟩
  | .unassignedOneByte b => ⟨.one b, none, .plain []⟩
  | .unassignedTwoByte b => ⟨.two b, none, .plain []⟩

/-- The map whose table the row stands in. -/
def Instr.opMap (i : Instr) : OpMap := i.parts.key.opMap

/-- The bytes of the row without the escape: what the decoder reads in the row's own map. -/
def Instr.rowBytes (i : Instr) : List Byte := i.parts.key.last :: i.parts.fields.bytes

/-- The bytes of an instruction: its opcode, `0F` first for a two-byte row, then its fields (R90). -/
def encode (i : Instr) : List Byte := i.parts.key.bytes ++ i.parts.fields.bytes

/-! ## The opcode table's own numbering -/

/-- The `n` bytes of `w`, the first byte in its most significant bits: spec/opcode_table.json numbers
the bits of a row with the last byte at bit 0, so that 0F 00 /0 is 0x0F00 in bits 23..8 (DEDUCED, safe: log entry 5). -/
def tableBytes : Nat → Nat → List Byte
  | 0, _ => []
  | n + 1, w => BitVec.ofNat 8 (w >>> (8 * n)) :: tableBytes n w

/-- Every byte after the table's bits is zero; no instruction without prefixes is longer than 12 bytes. -/
def tableStream (nbits w : Nat) : List Byte := tableBytes (nbits / 8) w ++ List.replicate 12 0#8

/-- The instruction the decoder reads from a word of the opcode table, both widths 16. A word of one
byte is a row of the one-byte map: a prefix, the escape, or an opcode. -/
def decodeTableWord (nbits w : Nat) : Option Instr :=
  let r := if nbits ≤ 8 then decodeRow defaultTable .oneByte ⟨.s16, .s16⟩ (tableStream nbits w)
    else decode ⟨.s16, .s16⟩ (tableStream nbits w)
  match r with
  | .ok (.row i, _) => some i
  | _ => none

end

end Sys2Proof
end

