-- ==== Sys2Proof/Machine/State.lean ====
section
/-!
DEFINITION. The state of the block (10_state.md R30 to R55), the records of its ports, the reasons a
step can stop, and the state after reset (70_reset_and_hazards.md R951). Plain data throughout.
-/

namespace Sys2Proof.Machine

/-! ## The byte view (20_memory.md R70) -/

/-- A byte view: cells in strictly rising address order. A view the requester may present lists exactly
the addresses 0 to L-1 (`Memory.wf`); an address not listed holds no byte (DESIGN CHOICE, safe: log
entry 10). -/
abbrev Memory := List Host.Cell

/-! ## Persistent state -/

/-- REGISTER_TABLE by column, each indexed by register number (R33). -/
structure RegisterTable where
  gpr8 : List Reg
  gpr16 : List Reg
  gpr32 : List Reg
  sreg : List SegReg
  cr : List Reg
  dr : List Reg
  tr : List Reg
deriving DecidableEq, Repr

/-- REGISTER_TABLE at reset: empty (R951). -/
def RegisterTable.empty : RegisterTable := ⟨[], [], [], [], [], [], []⟩

/-! ## The request port (R40) -/

/-- One decode request. -/
structure Request where
  view : Memory
  offset : Nat
  is32 : Bool
deriving DecidableEq, Repr

/-! ## Prefix state (R42) -/

/-- The repeat prefix recorded: REP (F3) or REPNE (F2). -/
inductive Rep where
  | rep
  | repne
deriving DecidableEq, Repr

/-- What the prefix scanner records (R42). -/
structure PrefixState where
  seg : Option SegReg
  opsz : Bool
  adsz : Bool
  lock : Bool
  rep : Option Rep
deriving DecidableEq, Repr

/-- The prefix state at the start of every request (R42). -/
def PrefixState.start : PrefixState := ⟨none, false, false, false, none⟩

/-! ## Output records (R50 to R54) -/

/-- An OperandDescriptor (R51). -/
structure OperandDescriptor where
  reg : Option Reg
  reg2 : Option Reg
  scale : Nat
  displacement : Int
  displacementSize : Nat
  immed : Nat
  immedSize : Nat
  isPointer : Bool
  segreg : SegReg
deriving DecidableEq, Repr

/-- An Instruction (R50). -/
structure Instruction where
  opcodeDescriptor : OpcodeDescriptor
  length : Nat
  operandSizeAttr : Bool
  addressSizeAttr : Bool
  operand1 : Option OperandDescriptor
  operand2 : Option OperandDescriptor
  operand3 : Option OperandDescriptor
  segmentOverride : Option SegReg
  lock : Bool
  rep : Option Rep
deriving DecidableEq, Repr

/-- The three failure kinds (R54). -/
inductive FailKind where
  | invalidOpcode
  | truncatedInstruction
  | unsupportedAddressingMode
deriving DecidableEq, Repr

/-- A Failure (R54, R900); `atOffset` is the spec's field `at`. -/
structure Failure where
  kind : FailKind
  offset : Nat
  atOffset : Nat
  field : FailField
  bytes : List Byte
deriving DecidableEq, Repr

/-- What the response port gives (R41). -/
inductive Response where
  | ok (ins : Instruction)
  | err (f : Failure)
deriving DecidableEq, Repr

/-! ## Transient latches (R42 to R47) -/

/-- The resolved memory part of the ModRM block (R46). -/
structure MemoryOperand where
  base : Option Reg
  index : Option Reg
  scale : Nat
  disp : Int
  dsize : Nat
deriving DecidableEq, Repr

/-- The latches of one request. `none` is the spec's "no value" for `osz`, `asz`, `key`, `entry`,
`desc` and `opcAt`, and the value `none` for `modrm` and `mem` (R951). -/
structure Latches where
  /-- the request in progress, read as one snapshot (R80; DEDUCED, safe: log entry 4) -/
  req : Request
  ps : PrefixState
  osz : Option Width
  asz : Option Width
  key : Option Key
  entry : Option Entry
  desc : Option OpcodeDescriptor
  opcAt : Option Nat
  cur : Nat
  modrm : Option Byte
  mem : Option MemoryOperand
  ops : List OperandDescriptor
deriving DecidableEq, Repr

/-! ## The machine -/

/-- Everything the spec gives the block (R30, R951). -/
structure State where
  /-- the parameters of R4: nothing in the machine writes them (DESIGN CHOICE, safe: log entry 3) -/
  params : Params
  opcodeTable : OpcodeTable
  registerTable : RegisterTable
  initialized : Bool
  request : Option Request
  response : Option Response
  /-- absent between requests (R48) -/
  latches : Option Latches
deriving DecidableEq, Repr

/-- The block has no fault: every failure is a response (60_exceptions.md R904, R910; 93, part 1:
"The block has no `stuck` behaviour"). Nothing raises one. -/
inductive Fault where
deriving DecidableEq, Repr

/-- Why a step gives no state. -/
inductive Refusal where
  /-- Raised by exec for an instruction that has no meaning yet. Safe: the machine stops. -/
  | notModelled (mnemonic : String)
  /-- Raised by step for a request presented before initialisation, which the spec refuses (R39, R950).
  Safe: the block gives no response either (DESIGN CHOICE: log entry 11). -/
  | requestBeforeInit
  /-- Raised by every meaning when no request is in progress: the block starts nothing on its own
  (R952). Safe: step never asks for it. -/
  | noRequest
deriving DecidableEq, Repr

/-- The block after reset, with the default parameters: tables empty, not initialised, ports empty, no
latch holds a value (R951). -/
def State.reset : State :=
  ⟨⟨defaultTable, Config.maxInstrLen⟩, [], RegisterTable.empty, false, none, none, none⟩

end Sys2Proof.Machine
end

