-- ==== Sys2Proof/Machine/Flags.lean ====
section
/-!
DEFINITION. The only flags of the block: the prefix state (40_prefix_scanner.md R142 to R146) and the
effective widths computed from it (R147, R148). The block has no arithmetic flags (10_state.md R35).
-/

namespace Sys2Proof.Machine

/-! ## What a prefix byte writes -/

/-- A segment override: the last one wins (R142). -/
def PrefixState.override (r : SegReg) (ps : PrefixState) : PrefixState := { ps with seg := some r }

/-- 66: present, not toggled (R143). -/
def PrefixState.operandSize (ps : PrefixState) : PrefixState := { ps with opsz := true }

/-- 67: present, not toggled (R144). -/
def PrefixState.addressSize (ps : PrefixState) : PrefixState := { ps with adsz := true }

/-- F0 (R145). -/
def PrefixState.setLock (ps : PrefixState) : PrefixState := { ps with lock := true }

/-- F2 and F3: the last one wins (R146). -/
def PrefixState.setRep (r : Rep) (ps : PrefixState) : PrefixState := { ps with rep := some r }

/-- The prefix bytes of 30_encoding.md R92 and their effect; `none` for every other byte. -/
def applyPrefix (b : Byte) (ps : PrefixState) : Option PrefixState :=
  match b.toNat with
  | 0x26 => some (ps.override .es)
  | 0x2E => some (ps.override .cs)
  | 0x36 => some (ps.override .ss)
  | 0x3E => some (ps.override .ds)
  | 0x64 => some (ps.override .fs)
  | 0x65 => some (ps.override .gs)
  | 0x66 => some ps.operandSize
  | 0x67 => some ps.addressSize
  | 0xF0 => some ps.setLock
  | 0xF2 => some (ps.setRep .repne)
  | 0xF3 => some (ps.setRep .rep)
  | _ => none

/-! ## Effective widths -/

/-- 32 when exactly one of the segment default and the override is set, else 16 (R147, R148). -/
def effectiveWidth (is32 toggled : Bool) : Width := if is32 != toggled then .s32 else .s16

/-- The effective widths of a request with that prefix state (R147, R148). -/
def effectiveAttrs (is32 : Bool) (ps : PrefixState) : Attrs :=
  ⟨effectiveWidth is32 ps.opsz, effectiveWidth is32 ps.adsz⟩

/-- The widths in force: the latches once set, before that what the scan has found so far (R43; DEDUCED, safe:
log entry 13). -/
def Latches.attrs (l : Latches) : Attrs :=
  let a := effectiveAttrs l.req.is32 l.ps
  ⟨l.osz.getD a.osz, l.asz.getD a.asz⟩

end Sys2Proof.Machine
end

