-- ==== Sys2Proof/Machine/Operands.lean ====
section
/-!
DEFINITION. The registers (10_state.md R33) and every operand form: the memory part of the ModRM block
(42_addressing_resolver.md R185 to R189), segment resolution (R210 to R212), register selection (R214)
and the resolver's methods (R193 to R209).
-/

namespace Sys2Proof.Machine

/-! ## REGISTER_TABLE (R33) -/

/-- The 54 registers in their columns, in number order (R33). -/
def RegisterTable.fixed : RegisterTable where
  gpr8 := [.al, .cl, .dl, .bl, .ah, .ch, .dh, .bh]
  gpr16 := [.ax, .cx, .dx, .bx, .sp, .bp, .si, .di]
  gpr32 := [.eax, .ecx, .edx, .ebx, .esp, .ebp, .esi, .edi]
  sreg := [.es, .cs, .ss, .ds, .fs, .gs]
  cr := [.cr0, .cr1, .cr2, .cr3, .cr4, .cr5, .cr6, .cr7]
  dr := [.dr0, .dr1, .dr2, .dr3, .dr4, .dr5, .dr6, .dr7]
  tr := [.tr0, .tr1, .tr2, .tr3, .tr4, .tr5, .tr6, .tr7]

/-- Every register a table holds. -/
def RegisterTable.registers (t : RegisterTable) : List Reg :=
  t.gpr8 ++ t.gpr16 ++ t.gpr32 ++ t.sreg.map Reg.seg ++ t.cr ++ t.dr ++ t.tr

/-- A segment register's name (R33). -/
def segName : SegReg → String
  | .es => "ES" | .cs => "CS" | .ss => "SS" | .ds => "DS" | .fs => "FS" | .gs => "GS"

/-- A register's name (R33, R34). -/
def regName : Reg → String
  | .al => "AL" | .cl => "CL" | .dl => "DL" | .bl => "BL"
  | .ah => "AH" | .ch => "CH" | .dh => "DH" | .bh => "BH"
  | .ax => "AX" | .cx => "CX" | .dx => "DX" | .bx => "BX"
  | .sp => "SP" | .bp => "BP" | .si => "SI" | .di => "DI"
  | .eax => "EAX" | .ecx => "ECX" | .edx => "EDX" | .ebx => "EBX"
  | .esp => "ESP" | .ebp => "EBP" | .esi => "ESI" | .edi => "EDI"
  | .seg r => segName r
  | .cr0 => "CR0" | .cr1 => "CR1" | .cr2 => "CR2" | .cr3 => "CR3"
  | .cr4 => "CR4" | .cr5 => "CR5" | .cr6 => "CR6" | .cr7 => "CR7"
  | .dr0 => "DR0" | .dr1 => "DR1" | .dr2 => "DR2" | .dr3 => "DR3"
  | .dr4 => "DR4" | .dr5 => "DR5" | .dr6 => "DR6" | .dr7 => "DR7"
  | .tr0 => "TR0" | .tr1 => "TR1" | .tr2 => "TR2" | .tr3 => "TR3"
  | .tr4 => "TR4" | .tr5 => "TR5" | .tr6 => "TR6" | .tr7 => "TR7"

/-- A register's width in bits (R33). -/
def regWidth : Reg → Nat
  | .al | .cl | .dl | .bl | .ah | .ch | .dh | .bh => 8
  | .ax | .cx | .dx | .bx | .sp | .bp | .si | .di | .seg _ => 16
  | .eax | .ecx | .edx | .ebx | .esp | .ebp | .esi | .edi => 32
  | .cr0 | .cr1 | .cr2 | .cr3 | .cr4 | .cr5 | .cr6 | .cr7 => 32
  | .dr0 | .dr1 | .dr2 | .dr3 | .dr4 | .dr5 | .dr6 | .dr7 => 32
  | .tr0 | .tr1 | .tr2 | .tr3 | .tr4 | .tr5 | .tr6 | .tr7 => 32

/-! ## What an operand is resolved from -/

/-- The latches and the table a method reads (R180). -/
structure Ctx where
  regs : RegisterTable
  osz : Width
  asz : Width
  /-- the segment override `ps.seg` -/
  seg : Option SegReg
  key : Key
  modrm : Option ModRM
  mem : Option MemoryOperand
deriving DecidableEq, Repr

/-! ## The memory part of the ModRM block -/

/-- `sext_8` of an unsigned byte value (R11). -/
def sext8 (v : Nat) : Int := if v < 128 then v else (v : Int) - 256

/-- `Disp(d, n)`: one byte is sign-extended, two or four are unsigned; no displacement is 0 (R188). -/
def dispValue (v n : Nat) : Int := if n = 1 then sext8 v else if n = 0 then 0 else v

/-- BASE16, base and index by rm (R185). -/
def base16 (rm : BitVec 3) : Option Reg × Option Reg :=
  match rm.toNat with
  | 0 => (some .bx, some .si)
  | 1 => (some .bx, some .di)
  | 2 => (some .bp, some .si)
  | 3 => (some .bp, some .di)
  | 4 => (some .si, none)
  | 5 => (some .di, none)
  | 6 => (some .bp, none)
  | _ => (some .bx, none)

/-- The 16-bit memory part with a displacement of value `v` in `n` bytes (R185). -/
def memory16 (mod : BitVec 2) (rm : BitVec 3) (v n : Nat) : MemoryOperand :=
  if mod = 0#2 ∧ rm = 6#3 then ⟨none, none, 1, dispValue v n, n⟩
  else ⟨(base16 rm).1, (base16 rm).2, 1, dispValue v n, n⟩

/-- The 32-bit memory part without a SIB byte (R186). -/
def memory32 (regs : RegisterTable) (mod : BitVec 2) (rm : BitVec 3) (v n : Nat) : MemoryOperand :=
  if mod = 0#2 ∧ rm = 5#3 then ⟨none, none, 1, dispValue v n, n⟩
  else ⟨regs.gpr32[rm.toNat]?, none, 1, dispValue v n, n⟩

/-- The index a SIB byte names: 100 is none (R187). -/
def sibIndex (regs : RegisterTable) (s : Sib) : Option Reg :=
  if s.index = 4#3 then none else regs.gpr32[s.index.toNat]?

/-- The base a SIB byte names: 101 with mod 00 is none (R187). -/
def sibBase (regs : RegisterTable) (mod : BitVec 2) (s : Sib) : Option Reg :=
  if s.base = 5#3 ∧ mod = 0#2 then none else regs.gpr32[s.base.toNat]?

/-- `2^ss` with an index, 1 without one (R187). -/
def sibScale (s : Sib) : Nat := if s.index = 4#3 then 1 else 2 ^ s.ss.toNat

/-- The 32-bit memory part with a SIB byte (R187). -/
def memorySib (regs : RegisterTable) (mod : BitVec 2) (s : Sib) (v n : Nat) : MemoryOperand :=
  ⟨sibBase regs mod s, sibIndex regs s, sibScale s, dispValue v n, n⟩

/-- The memory part by address size (R184). -/
def memoryPart (regs : RegisterTable) (asz : Width) (m : ModRM) (sib : Option Sib) (v n : Nat) :
    MemoryOperand :=
  match asz with
  | .s16 => memory16 m.mod m.rm v n
  | .s32 =>
    match sib with
    | some s => memorySib regs m.mod s v n
    | none => memory32 regs m.mod m.rm v n

/-- SS for a base BP, EBP or ESP, else DS (R189). -/
def defaultSegment (base : Option Reg) : SegReg :=
  if base = some .bp ∨ base = some .ebp ∨ base = some .esp then .ss else .ds

/-! ## The formatter (R181, R190, R212) -/

/-- The descriptor every call starts from (R181). -/
def baseOperand (seg : SegReg) : OperandDescriptor := ⟨none, none, 1, 0, 0, 0, 0, false, seg⟩

/-- The segment of an operand that is not a memory operand (R212), and of O and X operands (R200, R208):
the override when present, DS otherwise. -/
def plainSegment (c : Ctx) : SegReg := c.seg.getD .ds

/-- A register operand (R193, R212). -/
def registerOperand (c : Ctx) (r : Option Reg) : OperandDescriptor :=
  { baseOperand (plainSegment c) with reg := r }

/-- An immediate of value `v` and size `n` (R201, R202). -/
def immediateOperand (c : Ctx) (v n : Nat) : OperandDescriptor :=
  { baseOperand (plainSegment c) with immed := v, immedSize := n }

/-- A direct offset of value `v` and size `n` (R200). -/
def offsetOperand (c : Ctx) (v n : Nat) : OperandDescriptor :=
  { baseOperand (plainSegment c) with displacement := v, displacementSize := n, isPointer := true }

/-- A ModRM memory operand (R190, R210). -/
def memoryOperand (c : Ctx) (m : MemoryOperand) : OperandDescriptor :=
  { baseOperand (c.seg.getD (defaultSegment m.base)) with
    reg := m.base, reg2 := m.index, scale := m.scale, displacement := m.disp,
    displacementSize := m.dsize, isPointer := true }

/-- A string pointer through one register (R208, R209). -/
def stringOperand (r : Reg) (seg : SegReg) : OperandDescriptor :=
  { baseOperand seg with reg := some r, isPointer := true }

/-! ## Register selection (R214, R125) -/

/-- `Reg(type, n)` (R214; the type `bs`, which R214 does not name, selects as `b`: DEDUCED, unsafe, log entry 6). -/
def regOf (c : Ctx) (t : OpType) (n : BitVec 3) : Option Reg :=
  match t with
  | .b | .bs => c.regs.gpr8[n.toNat]?
  | .w => c.regs.gpr16[n.toNat]?
  | .d => c.regs.gpr32[n.toNat]?
  | .v | .p | .a | .s =>
    match c.osz with
    | .s16 => c.regs.gpr16[n.toNat]?
    | .s32 => c.regs.gpr32[n.toNat]?

/-- A fixed register spec (R125, R206). -/
def fixedRegister (osz : Width) : FixedReg → Reg
  | .al => .al
  | .cl => .cl
  | .dx => .dx
  | .eAX => match osz with | .s16 => .ax | .s32 => .eax
  | .seg r => .seg r

/-! ## The resolver (R180, R253) -/

/-- An E or M operand: register-direct when mod is 11, else the memory operand (R193 to R195). -/
def rmOperand (c : Ctx) (t : OpType) : OperandDescriptor :=
  match c.modrm, c.mem with
  | some m, mem =>
    if m.mod = 3#2 then registerOperand c (regOf c t m.rm)
    else match mem with
      | some mo => memoryOperand c mo
      | none => baseOperand (plainSegment c)
  | none, _ => baseOperand (plainSegment c)

/-- An operand named by the ModRM reg field: a column's entry at that number. -/
def regFieldOperand (c : Ctx) (pick : BitVec 3 → Option Reg) : OperandDescriptor :=
  registerOperand c (c.modrm.bind fun m => pick m.reg)

/-- One operand (R193 to R209); `f` is the trailing field an O, I or J operand has read. -/
def resolve (c : Ctx) (sp : Spec) (f : Field) : OperandDescriptor :=
  match sp with
  | .E t => rmOperand c t
  | .M (some t) => rmOperand c t
  | .M none => rmOperand c .v
  | .G t => regFieldOperand c (regOf c t)
  | .R _ => registerOperand c (c.modrm.bind fun m => c.regs.gpr32[m.rm.toNat]?)
  | .S _ => regFieldOperand c fun n => c.regs.sreg[n.toNat]?.map Reg.seg
  | .C _ => regFieldOperand c fun n => c.regs.cr[n.toNat]?
  | .D _ => regFieldOperand c fun n => c.regs.dr[n.toNat]?
  | .T _ => regFieldOperand c fun n => c.regs.tr[n.toNat]?
  | .O _ => offsetOperand c f.value f.size
  | .I _ | .J _ => immediateOperand c f.value f.size
  | .one => immediateOperand c 1 1
  | .fixed r => registerOperand c (some (fixedRegister c.osz r))
  | .Z t => registerOperand c (regOf c t (c.key.last.extractLsb' 0 3))
  | .X _ => stringOperand (match c.asz with | .s16 => .si | .s32 => .esi) (plainSegment c)
  | .Y _ => stringOperand (match c.asz with | .s16 => .di | .s32 => .edi) .es
  | .fpu => baseOperand (plainSegment c)

/-- Does the spec read a trailing field? (R124) -/
def trails : Spec → Bool
  | .O _ | .I _ | .J _ => true
  | .E _ | .M _ | .G _ | .R _ | .S _ | .C _ | .D _ | .T _ | .one | .fixed _ | .Z _ | .X _ | .Y _
  | .fpu => false

/-- The operands in declared order, the trailing fields handed out in that order (R180, R192). A ModRM byte, a
memory part or a field that is not there, which R168 rules out, gives defaults (DESIGN CHOICE, unsafe: log
entry 9). -/
def resolveAll (c : Ctx) : List Spec → List Field → List OperandDescriptor
  | [], _ => []
  | sp :: sps, fs =>
    if trails sp then resolve c sp (fs.headD .absent) :: resolveAll c sps fs.tail
    else resolve c sp .absent :: resolveAll c sps fs

end Sys2Proof.Machine
end

