-- ==== Sys2Proof/Machine/Ops.lean ====
section
/-!
DEFINITION. The shared operations: reading the byte view (20_memory.md), the life of a request (accept,
fail, answer, send; 10_state.md R41, R48), initialisation (70_reset_and_hazards.md R950), and serving one
row of the opcode table (43_decoder.md R240).
-/

namespace Sys2Proof.Machine

/-! ## The byte view -/

/-- The byte at offset `p`; `none` where the view has none (R70, R76). -/
def Memory.byteAt (m : Memory) (p : Nat) : Option Byte := m.lookup p

/-- The bytes of the view at the offsets from `p` on, below `lim`. -/
def Memory.bytesFrom (m : Memory) (p lim : Nat) : List Byte :=
  (m.filter fun c => decide (p ≤ c.1) && decide (c.1 < lim)).map Prod.snd

/-- Cells at rising offsets from `p` on. -/
def Memory.ofBytesAt : Nat → List Byte → Memory
  | _, [] => []
  | p, b :: bs => (p, b) :: Memory.ofBytesAt (p + 1) bs

/-- The view that holds these bytes at offsets 0, 1, 2 ... (R40). -/
def Memory.ofBytes (bs : List Byte) : Memory := Memory.ofBytesAt 0 bs

/-- The canonical form: exactly the offsets 0 to L-1, in order (R70). -/
def Memory.wf (m : Memory) : Bool := m.map Prod.fst == List.range m.length

/-- Where the view ends for this request: `L`, or less under MAX_INSTR_LEN (R906). -/
def viewLimit (p : Params) (r : Request) : Nat :=
  match p.maxInstrLen with
  | none => r.view.length
  | some n => min r.view.length (r.offset + n)

/-- The bytes the request may still read at the cursor. -/
def State.fetch (s : State) (l : Latches) : List Byte :=
  l.req.view.bytesFrom l.cur (viewLimit s.params l.req)

/-! ## Initialisation and the ports -/

/-- Builds both tables from the parameters, then sets `initialized` (R950). -/
def State.initialise (s : State) : State :=
  { s with opcodeTable := s.params.opcodeTable, registerTable := RegisterTable.fixed, initialized := true }

/-- The requester presents a request at the port (R40). The spec gives no handshake: a request presented
while an earlier one is at the port takes its place there, the one in progress goes on from its snapshot,
and sending that one's response empties the port (DESIGN CHOICE, unsafe: log entry 14). -/
def State.present (s : State) (r : Request) : State := { s with request := some r }

/-- The start values of every latch (R951, R954). -/
def Latches.start (r : Request) : Latches :=
  ⟨r, PrefixState.start, none, none, none, none, none, none, r.offset, none, none, []⟩

/-- The block takes the request: every latch at its start value, the view read as a snapshot (R80). -/
def State.accept (s : State) (r : Request) : State := { s with latches := some (Latches.start r) }

/-- The response is sent: the ports are empty and every latch is discarded (R48, R55), in a step of its own
(DESIGN CHOICE, safe: log entry 7). -/
def State.send (s : State) : State := { s with request := none, response := none, latches := none }

/-! ## Failures (60_exceptions.md R900 to R904)

A failure is the block's only exception: a response, with nothing saved and no transfer of control
(R910), and so with no return from it (R911). -/

/-- `raise`: the request ends with the failure and no Instruction, and nothing of it is kept (R904). -/
def State.raise (s : State) (l : Latches) (kind : FailKind) (atOffset : Nat) (field : FailField)
    (bytes : List Byte) : State :=
  { s with response := some (.err ⟨kind, l.req.offset, atOffset, field, bytes⟩), latches := none }

/-- The offset of the first opcode byte: latched after the escape, else the cursor's (R161). -/
def Latches.opcodeAt (l : Latches) : Nat := l.opcAt.getD l.cur

/-- `InvalidOpcode`, always at the first opcode byte (R901). -/
def State.raiseInvalid (s : State) (l : Latches) (bytes : List Byte) : State :=
  s.raise l .invalidOpcode l.opcodeAt .opcode bytes

/-- The failure of a row the decoder could not read (R901, R902). -/
def State.decodeFailure (s : State) (l : Latches) : DecodeError → State
  | .truncated field pos bytes => s.raise l .truncatedInstruction (l.cur + pos) field bytes
  | .unassigned k => s.raiseInvalid l k.bytes
  | .emptySlot k m => s.raiseInvalid l (k.bytes ++ [m])
  | .noSegment k m => s.raiseInvalid l (k.bytes ++ [m])

/-! ## Serving one row -/

/-- Which map the byte at the cursor indexes: the two-byte map once the escape has been read (R93). -/
def Latches.opMap (l : Latches) : OpMap := if l.opcAt.isSome then .twoByte else .oneByte

/-- Runs `g` on the latches of the request in progress. -/
def State.withRequest (s : State) (g : Latches → State) : Host.Outcome State Fault Refusal :=
  match s.latches with
  | some l => .next (g l)
  | none => .refused .noRequest

/-- A prefix byte: its effect on `ps`, and one byte consumed (R140). -/
def servePrefix (g : PrefixState → PrefixState) (s : State) : Host.Outcome State Fault Refusal :=
  s.withRequest fun l => { s with latches := some { l with ps := g l.ps, cur := l.cur + 1 } }

/-- The end of the prefix scan: the effective widths are latched (R43, R147, R148), and the offset of the
first opcode byte (R161). -/
def Latches.endScan (l : Latches) : Latches :=
  { l with osz := some l.attrs.osz, asz := some l.attrs.asz, opcAt := some l.opcodeAt }

/-- The escape 0F: the scan ends and one opcode byte is consumed (R151, R161). -/
def serveEscape (s : State) : Host.Outcome State Fault Refusal :=
  s.withRequest fun l => { s with latches := some { l.endScan with cur := l.cur + 1 } }

/-- A key with no entry (R163, R901). -/
def serveUnassigned (k : Key) (s : State) : Host.Outcome State Fault Refusal :=
  s.withRequest fun l => s.raiseInvalid l k.bytes

/-- The opcode byte consumed and looked up: `key`, `entry`, `desc` (R161 to R163). -/
def Latches.readOpcode (l : Latches) (t : OpcodeTable) (k : Key) (d : OpcodeDescriptor) : Latches :=
  { l.endScan with key := some k, entry := t.find k, desc := some d, cur := l.cur + 1 }

/-- The memory part the fields give, where it is parsed at all (R184). -/
def memoryLatch (regs : RegisterTable) (asz : Width) (d : OpcodeDescriptor) (f : Fields) :
    Option MemoryOperand :=
  match f.modrm with
  | some m => if needsMemory d m then some (memoryPart regs asz m f.sib f.disp.value f.disp.size) else none
  | none => none

/-- What the resolver reads (R180). -/
def Latches.ctx (l : Latches) (regs : RegisterTable) (k : Key) : Ctx :=
  ⟨regs, l.attrs.osz, l.attrs.asz, l.ps.seg, k, l.modrm.map ModRM.ofByte, l.mem⟩

/-- The ModRM block and the trailing fields consumed, `modrm` and `mem` latched (R183, R184, R243). -/
def Latches.readBlock (l : Latches) (regs : RegisterTable) (d : OpcodeDescriptor) (f : Fields) : Latches :=
  { l with modrm := f.modrm.map ModRM.toByte, mem := memoryLatch regs l.attrs.asz d f, cur := l.cur + f.size }

/-- The operands in declared order (R180, R240 step 7). -/
def Latches.format (l : Latches) (regs : RegisterTable) (k : Key) (d : OpcodeDescriptor) (f : Fields) :
    Latches :=
  { l with ops := resolveAll (l.ctx regs k) d.specs f.trailing }

/-- The Instruction of R240 step 8 (R241). -/
def Latches.instruction (l : Latches) (d : OpcodeDescriptor) : Instruction where
  opcodeDescriptor := d
  length := l.cur - l.req.offset
  operandSizeAttr := l.attrs.osz = .s32
  addressSizeAttr := l.attrs.asz = .s32
  operand1 := l.ops[0]?
  operand2 := l.ops[1]?
  operand3 := l.ops[2]?
  segmentOverride := l.ps.seg
  lock := l.ps.lock
  rep := l.ps.rep

/-- Steps 5 to 8 of R240 on the latches after the lookup: the unsupported method (R165), the S-register
check (R198), the ModRM block, the operands and the result. -/
def State.answer (s : State) (l : Latches) (k : Key) (d : OpcodeDescriptor) (f : Fields) : State :=
  if d.specs.any Spec.isFpu then s.raise l .unsupportedAddressingMode l.opcodeAt .opcode k.bytes
  else if f.modrm.any (segmentMissing d) then
    s.raiseInvalid l (k.bytes ++ (f.modrm.map ModRM.toByte).toList)
  else
    let l' := (l.readBlock s.registerTable d f).format s.registerTable k d f
    { s with latches := some l', response := some (.ok (l'.instruction d)) }

/-- An opcode row: key `k`, final descriptor `d`, encoded fields `f` (R240 steps 3 to 8). -/
def serveRow (k : Key) (d : OpcodeDescriptor) (f : Fields) (s : State) : Host.Outcome State Fault Refusal :=
  s.withRequest fun l => s.answer (l.readOpcode s.opcodeTable k d) k d f

end Sys2Proof.Machine
end

