-- ==== Sys2Proof/Machine/OneByte00.lean ====
section
/-!
DEFINITION. 44_onebyte_00_5F.md: the rows of the one-byte opcodes 00 to 5F. A row is its key,
its descriptor and its encoded fields; what the block does with them is `serveRow`.
-/

namespace Sys2Proof.Machine

/-- 00: ADD Eb, Gb (R300). -/
def execAdd00 (reg : BitVec 3) (e : Rm) (s : State) : Host.Outcome State Fault Refusal :=
  serveRow (.one 0x00#8) (opcode "ADD" [.E .b, .G .b]) (.block reg e []) s

/-- 01: ADD Ev, Gv (R301). -/
def execAdd01 (reg : BitVec 3) (e : Rm) (s : State) : Host.Outcome State Fault Refusal :=
  serveRow (.one 0x01#8) (opcode "ADD" [.E .v, .G .v]) (.block reg e []) s

/-- 02: ADD Gb, Eb (R302). -/
def execAdd02 (reg : BitVec 3) (e : Rm) (s : State) : Host.Outcome State Fault Refusal :=
  serveRow (.one 0x02#8) (opcode "ADD" [.G .b, .E .b]) (.block reg e []) s

/-- 03: ADD Gv, Ev (R303). -/
def execAdd03 (reg : BitVec 3) (e : Rm) (s : State) : Host.Outcome State Fault Refusal :=
  serveRow (.one 0x03#8) (opcode "ADD" [.G .v, .E .v]) (.block reg e []) s

/-- 04: ADD AL, Ib (R304). -/
def execAdd04 (imm : BitVec 8) (s : State) : Host.Outcome State Fault Refusal :=
  serveRow (.one 0x04#8) (opcode "ADD" [.fixed .al, .I .b]) (.plain [.f8 imm]) s

/-- 05: ADD eAX, Iv (R305). -/
def execAdd05 (imm : Field) (s : State) : Host.Outcome State Fault Refusal :=
  serveRow (.one 0x05#8) (opcode "ADD" [.fixed .eAX, .I .v]) (.plain [imm]) s

/-- 06: PUSH ES (R306). -/
def execPush06 (s : State) : Host.Outcome State Fault Refusal :=
  serveRow (.one 0x06#8) (opcode "PUSH" [.fixed (.seg .es)]) (.plain []) s

/-- 07: POP ES (R307). -/
def execPop07 (s : State) : Host.Outcome State Fault Refusal :=
  serveRow (.one 0x07#8) (opcode "POP" [.fixed (.seg .es)]) (.plain []) s

/-- 08: OR Eb, Gb (R308). -/
def execOr08 (reg : BitVec 3) (e : Rm) (s : State) : Host.Outcome State Fault Refusal :=
  serveRow (.one 0x08#8) (opcode "OR" [.E .b, .G .b]) (.block reg e []) s

/-- 09: OR Ev, Gv (R309). -/
def execOr09 (reg : BitVec 3) (e : Rm) (s : State) : Host.Outcome State Fault Refusal :=
  serveRow (.one 0x09#8) (opcode "OR" [.E .v, .G .v]) (.block reg e []) s

/-- 0A: OR Gb, Eb (R310). -/
def execOr0A (reg : BitVec 3) (e : Rm) (s : State) : Host.Outcome State Fault Refusal :=
  serveRow (.one 0x0A#8) (opcode "OR" [.G .b, .E .b]) (.block reg e []) s

/-- 0B: OR Gv, Ev (R311). -/
def execOr0B (reg : BitVec 3) (e : Rm) (s : State) : Host.Outcome State Fault Refusal :=
  serveRow (.one 0x0B#8) (opcode "OR" [.G .v, .E .v]) (.block reg e []) s

/-- 0C: OR AL, Ib (R312). -/
def execOr0C (imm : BitVec 8) (s : State) : Host.Outcome State Fault Refusal :=
  serveRow (.one 0x0C#8) (opcode "OR" [.fixed .al, .I .b]) (.plain [.f8 imm]) s

/-- 0D: OR eAX, Iv (R313). -/
def execOr0D (imm : Field) (s : State) : Host.Outcome State Fault Refusal :=
  serveRow (.one 0x0D#8) (opcode "OR" [.fixed .eAX, .I .v]) (.plain [imm]) s

/-- 0E: PUSH CS (R314). -/
def execPush0E (s : State) : Host.Outcome State Fault Refusal :=
  serveRow (.one 0x0E#8) (opcode "PUSH" [.fixed (.seg .cs)]) (.plain []) s

/-- 10: ADC Eb, Gb (R315). -/
def execAdc10 (reg : BitVec 3) (e : Rm) (s : State) : Host.Outcome State Fault Refusal :=
  serveRow (.one 0x10#8) (opcode "ADC" [.E .b, .G .b]) (.block reg e []) s

/-- 11: ADC Ev, Gv (R316). -/
def execAdc11 (reg : BitVec 3) (e : Rm) (s : State) : Host.Outcome State Fault Refusal :=
  serveRow (.one 0x11#8) (opcode "ADC" [.E .v, .G .v]) (.block reg e []) s

/-- 12: ADC Gb, Eb (R317). -/
def execAdc12 (reg : BitVec 3) (e : Rm) (s : State) : Host.Outcome State Fault Refusal :=
  serveRow (.one 0x12#8) (opcode "ADC" [.G .b, .E .b]) (.block reg e []) s

/-- 13: ADC Gv, Ev (R318). -/
def execAdc13 (reg : BitVec 3) (e : Rm) (s : State) : Host.Outcome State Fault Refusal :=
  serveRow (.one 0x13#8) (opcode "ADC" [.G .v, .E .v]) (.block reg e []) s

/-- 14: ADC AL, Ib (R319). -/
def execAdc14 (imm : BitVec 8) (s : State) : Host.Outcome State Fault Refusal :=
  serveRow (.one 0x14#8) (opcode "ADC" [.fixed .al, .I .b]) (.plain [.f8 imm]) s

/-- 15: ADC eAX, Iv (R320). -/
def execAdc15 (imm : Field) (s : State) : Host.Outcome State Fault Refusal :=
  serveRow (.one 0x15#8) (opcode "ADC" [.fixed .eAX, .I .v]) (.plain [imm]) s

/-- 16: PUSH SS (R321). -/
def execPush16 (s : State) : Host.Outcome State Fault Refusal :=
  serveRow (.one 0x16#8) (opcode "PUSH" [.fixed (.seg .ss)]) (.plain []) s

/-- 17: POP SS (R322). -/
def execPop17 (s : State) : Host.Outcome State Fault Refusal :=
  serveRow (.one 0x17#8) (opcode "POP" [.fixed (.seg .ss)]) (.plain []) s

/-- 18: SBB Eb, Gb (R323). -/
def execSbb18 (reg : BitVec 3) (e : Rm) (s : State) : Host.Outcome State Fault Refusal :=
  serveRow (.one 0x18#8) (opcode "SBB" [.E .b, .G .b]) (.block reg e []) s

/-- 19: SBB Ev, Gv (R324). -/
def execSbb19 (reg : BitVec 3) (e : Rm) (s : State) : Host.Outcome State Fault Refusal :=
  serveRow (.one 0x19#8) (opcode "SBB" [.E .v, .G .v]) (.block reg e []) s

/-- 1A: SBB Gb, Eb (R325). -/
def execSbb1A (reg : BitVec 3) (e : Rm) (s : State) : Host.Outcome State Fault Refusal :=
  serveRow (.one 0x1A#8) (opcode "SBB" [.G .b, .E .b]) (.block reg e []) s

/-- 1B: SBB Gv, Ev (R326). -/
def execSbb1B (reg : BitVec 3) (e : Rm) (s : State) : Host.Outcome State Fault Refusal :=
  serveRow (.one 0x1B#8) (opcode "SBB" [.G .v, .E .v]) (.block reg e []) s

/-- 1C: SBB AL, Ib (R327). -/
def execSbb1C (imm : BitVec 8) (s : State) : Host.Outcome State Fault Refusal :=
  serveRow (.one 0x1C#8) (opcode "SBB" [.fixed .al, .I .b]) (.plain [.f8 imm]) s

/-- 1D: SBB eAX, Iv (R328). -/
def execSbb1D (imm : Field) (s : State) : Host.Outcome State Fault Refusal :=
  serveRow (.one 0x1D#8) (opcode "SBB" [.fixed .eAX, .I .v]) (.plain [imm]) s

/-- 1E: PUSH DS (R329). -/
def execPush1E (s : State) : Host.Outcome State Fault Refusal :=
  serveRow (.one 0x1E#8) (opcode "PUSH" [.fixed (.seg .ds)]) (.plain []) s

/-- 1F: POP DS (R330). -/
def execPop1F (s : State) : Host.Outcome State Fault Refusal :=
  serveRow (.one 0x1F#8) (opcode "POP" [.fixed (.seg .ds)]) (.plain []) s

/-- 20: AND Eb, Gb (R331). -/
def execAnd20 (reg : BitVec 3) (e : Rm) (s : State) : Host.Outcome State Fault Refusal :=
  serveRow (.one 0x20#8) (opcode "AND" [.E .b, .G .b]) (.block reg e []) s

/-- 21: AND Ev, Gv (R332). -/
def execAnd21 (reg : BitVec 3) (e : Rm) (s : State) : Host.Outcome State Fault Refusal :=
  serveRow (.one 0x21#8) (opcode "AND" [.E .v, .G .v]) (.block reg e []) s

/-- 22: AND Gb, Eb (R333). -/
def execAnd22 (reg : BitVec 3) (e : Rm) (s : State) : Host.Outcome State Fault Refusal :=
  serveRow (.one 0x22#8) (opcode "AND" [.G .b, .E .b]) (.block reg e []) s

/-- 23: AND Gv, Ev (R334). -/
def execAnd23 (reg : BitVec 3) (e : Rm) (s : State) : Host.Outcome State Fault Refusal :=
  serveRow (.one 0x23#8) (opcode "AND" [.G .v, .E .v]) (.block reg e []) s

/-- 24: AND AL, Ib (R335). -/
def execAnd24 (imm : BitVec 8) (s : State) : Host.Outcome State Fault Refusal :=
  serveRow (.one 0x24#8) (opcode "AND" [.fixed .al, .I .b]) (.plain [.f8 imm]) s

/-- 25: AND eAX, Iv (R336). -/
def execAnd25 (imm : Field) (s : State) : Host.Outcome State Fault Refusal :=
  serveRow (.one 0x25#8) (opcode "AND" [.fixed .eAX, .I .v]) (.plain [imm]) s

/-- 27: DAA (R337). -/
def execDaa27 (s : State) : Host.Outcome State Fault Refusal :=
  serveRow (.one 0x27#8) (opcode "DAA" []) (.plain []) s

/-- 28: SUB Eb, Gb (R338). -/
def execSub28 (reg : BitVec 3) (e : Rm) (s : State) : Host.Outcome State Fault Refusal :=
  serveRow (.one 0x28#8) (opcode "SUB" [.E .b, .G .b]) (.block reg e []) s

/-- 29: SUB Ev, Gv (R339). -/
def execSub29 (reg : BitVec 3) (e : Rm) (s : State) : Host.Outcome State Fault Refusal :=
  serveRow (.one 0x29#8) (opcode "SUB" [.E .v, .G .v]) (.block reg e []) s

/-- 2A: SUB Gb, Eb (R340). -/
def execSub2A (reg : BitVec 3) (e : Rm) (s : State) : Host.Outcome State Fault Refusal :=
  serveRow (.one 0x2A#8) (opcode "SUB" [.G .b, .E .b]) (.block reg e []) s

/-- 2B: SUB Gv, Ev (R341). -/
def execSub2B (reg : BitVec 3) (e : Rm) (s : State) : Host.Outcome State Fault Refusal :=
  serveRow (.one 0x2B#8) (opcode "SUB" [.G .v, .E .v]) (.block reg e []) s

/-- 2C: SUB AL, Ib (R342). -/
def execSub2C (imm : BitVec 8) (s : State) : Host.Outcome State Fault Refusal :=
  serveRow (.one 0x2C#8) (opcode "SUB" [.fixed .al, .I .b]) (.plain [.f8 imm]) s

/-- 2D: SUB eAX, Iv (R343). -/
def execSub2D (imm : Field) (s : State) : Host.Outcome State Fault Refusal :=
  serveRow (.one 0x2D#8) (opcode "SUB" [.fixed .eAX, .I .v]) (.plain [imm]) s

/-- 2F: DAS (R344). -/
def execDas2F (s : State) : Host.Outcome State Fault Refusal :=
  serveRow (.one 0x2F#8) (opcode "DAS" []) (.plain []) s

/-- 30: XOR Eb, Gb (R345). -/
def execXor30 (reg : BitVec 3) (e : Rm) (s : State) : Host.Outcome State Fault Refusal :=
  serveRow (.one 0x30#8) (opcode "XOR" [.E .b, .G .b]) (.block reg e []) s

/-- 31: XOR Ev, Gv (R346). -/
def execXor31 (reg : BitVec 3) (e : Rm) (s : State) : Host.Outcome State Fault Refusal :=
  serveRow (.one 0x31#8) (opcode "XOR" [.E .v, .G .v]) (.block reg e []) s

/-- 32: XOR Gb, Eb (R347). -/
def execXor32 (reg : BitVec 3) (e : Rm) (s : State) : Host.Outcome State Fault Refusal :=
  serveRow (.one 0x32#8) (opcode "XOR" [.G .b, .E .b]) (.block reg e []) s

/-- 33: XOR Gv, Ev (R348). -/
def execXor33 (reg : BitVec 3) (e : Rm) (s : State) : Host.Outcome State Fault Refusal :=
  serveRow (.one 0x33#8) (opcode "XOR" [.G .v, .E .v]) (.block reg e []) s

/-- 34: XOR AL, Ib (R349). -/
def execXor34 (imm : BitVec 8) (s : State) : Host.Outcome State Fault Refusal :=
  serveRow (.one 0x34#8) (opcode "XOR" [.fixed .al, .I .b]) (.plain [.f8 imm]) s

/-- 35: XOR eAX, Iv (R350). -/
def execXor35 (imm : Field) (s : State) : Host.Outcome State Fault Refusal :=
  serveRow (.one 0x35#8) (opcode "XOR" [.fixed .eAX, .I .v]) (.plain [imm]) s

/-- 37: AAA (R351). -/
def execAaa37 (s : State) : Host.Outcome State Fault Refusal :=
  serveRow (.one 0x37#8) (opcode "AAA" []) (.plain []) s

/-- 38: CMP Eb, Gb (R352). -/
def execCmp38 (reg : BitVec 3) (e : Rm) (s : State) : Host.Outcome State Fault Refusal :=
  serveRow (.one 0x38#8) (opcode "CMP" [.E .b, .G .b]) (.block reg e []) s

/-- 39: CMP Ev, Gv (R353). -/
def execCmp39 (reg : BitVec 3) (e : Rm) (s : State) : Host.Outcome State Fault Refusal :=
  serveRow (.one 0x39#8) (opcode "CMP" [.E .v, .G .v]) (.block reg e []) s

/-- 3A: CMP Gb, Eb (R354). -/
def execCmp3A (reg : BitVec 3) (e : Rm) (s : State) : Host.Outcome State Fault Refusal :=
  serveRow (.one 0x3A#8) (opcode "CMP" [.G .b, .E .b]) (.block reg e []) s

/-- 3B: CMP Gv, Ev (R355). -/
def execCmp3B (reg : BitVec 3) (e : Rm) (s : State) : Host.Outcome State Fault Refusal :=
  serveRow (.one 0x3B#8) (opcode "CMP" [.G .v, .E .v]) (.block reg e []) s

/-- 3C: CMP AL, Ib (R356). -/
def execCmp3C (imm : BitVec 8) (s : State) : Host.Outcome State Fault Refusal :=
  serveRow (.one 0x3C#8) (opcode "CMP" [.fixed .al, .I .b]) (.plain [.f8 imm]) s

/-- 3D: CMP eAX, Iv (R357). -/
def execCmp3D (imm : Field) (s : State) : Host.Outcome State Fault Refusal :=
  serveRow (.one 0x3D#8) (opcode "CMP" [.fixed .eAX, .I .v]) (.plain [imm]) s

/-- 3F: AAS (R358). -/
def execAas3F (s : State) : Host.Outcome State Fault Refusal :=
  serveRow (.one 0x3F#8) (opcode "AAS" []) (.plain []) s

/-- 40+r: INC Zv (R359). -/
def execInc40 (r : BitVec 3) (s : State) : Host.Outcome State Fault Refusal :=
  serveRow (.one (opcodeReg 0x40#8 r)) (opcode "INC" [.Z .v]) (.plain []) s

/-- 48+r: DEC Zv (R360). -/
def execDec48 (r : BitVec 3) (s : State) : Host.Outcome State Fault Refusal :=
  serveRow (.one (opcodeReg 0x48#8 r)) (opcode "DEC" [.Z .v]) (.plain []) s

/-- 50+r: PUSH Zv (R361). -/
def execPush50 (r : BitVec 3) (s : State) : Host.Outcome State Fault Refusal :=
  serveRow (.one (opcodeReg 0x50#8 r)) (opcode "PUSH" [.Z .v]) (.plain []) s

/-- 58+r: POP Zv (R362). -/
def execPop58 (r : BitVec 3) (s : State) : Host.Outcome State Fault Refusal :=
  serveRow (.one (opcodeReg 0x58#8 r)) (opcode "POP" [.Z .v]) (.plain []) s

end Sys2Proof.Machine
end

