-- ==== Sys2Proof/Machine/OneByte60.lean ====
section
/-!
DEFINITION. 45_onebyte_60_8F.md: the rows of the one-byte opcodes 60 to 8F. A row is its key,
its descriptor and its encoded fields; what the block does with them is `serveRow`.
-/

namespace Sys2Proof.Machine

/-- 60: PUSHA (R363). -/
def execPusha60 (s : State) : Host.Outcome State Fault Refusal :=
  serveRow (.one 0x60#8) (opcode "PUSHA" []) (.plain []) s

/-- 61: POPA (R364). -/
def execPopa61 (s : State) : Host.Outcome State Fault Refusal :=
  serveRow (.one 0x61#8) (opcode "POPA" []) (.plain []) s

/-- 62: BOUND Gv, Ma (R365). -/
def execBound62 (reg : BitVec 3) (e : Rm) (s : State) : Host.Outcome State Fault Refusal :=
  serveRow (.one 0x62#8) (opcode "BOUND" [.G .v, .M (some .a)]) (.block reg e []) s

/-- 63: ARPL Ew, Gw (R366). -/
def execArpl63 (reg : BitVec 3) (e : Rm) (s : State) : Host.Outcome State Fault Refusal :=
  serveRow (.one 0x63#8) (opcode "ARPL" [.E .w, .G .w]) (.block reg e []) s

/-- 68: PUSH Iv (R367). -/
def execPush68 (imm : Field) (s : State) : Host.Outcome State Fault Refusal :=
  serveRow (.one 0x68#8) (opcode "PUSH" [.I .v]) (.plain [imm]) s

/-- 69: IMUL Gv, Ev, Iv (R368). -/
def execImul69 (reg : BitVec 3) (e : Rm) (imm : Field) (s : State) : Host.Outcome State Fault Refusal :=
  serveRow (.one 0x69#8) (opcode "IMUL" [.G .v, .E .v, .I .v]) (.block reg e [imm]) s

/-- 6A: PUSH Ibs (R369). -/
def execPush6A (imm : BitVec 8) (s : State) : Host.Outcome State Fault Refusal :=
  serveRow (.one 0x6A#8) (opcode "PUSH" [.I .bs]) (.plain [.f8 imm]) s

/-- 6B: IMUL Gv, Ev, Ibs (R370). -/
def execImul6B (reg : BitVec 3) (e : Rm) (imm : BitVec 8) (s : State) : Host.Outcome State Fault Refusal :=
  serveRow (.one 0x6B#8) (opcode "IMUL" [.G .v, .E .v, .I .bs]) (.block reg e [.f8 imm]) s

/-- 6C: INSB Yb, DX (R371). -/
def execInsb6C (s : State) : Host.Outcome State Fault Refusal :=
  serveRow (.one 0x6C#8) (opcode "INSB" [.Y .b, .fixed .dx]) (.plain []) s

/-- 6D: INSW Yv, DX (R372). -/
def execInsw6D (s : State) : Host.Outcome State Fault Refusal :=
  serveRow (.one 0x6D#8) (opcode "INSW" [.Y .v, .fixed .dx]) (.plain []) s

/-- 6E: OUTSB DX, Xb (R373). -/
def execOutsb6E (s : State) : Host.Outcome State Fault Refusal :=
  serveRow (.one 0x6E#8) (opcode "OUTSB" [.fixed .dx, .X .b]) (.plain []) s

/-- 6F: OUTSW DX, Xv (R374). -/
def execOutsw6F (s : State) : Host.Outcome State Fault Refusal :=
  serveRow (.one 0x6F#8) (opcode "OUTSW" [.fixed .dx, .X .v]) (.plain []) s

/-- 70: JO Jb (R375). -/
def execJo70 (rel : BitVec 8) (s : State) : Host.Outcome State Fault Refusal :=
  serveRow (.one 0x70#8) (opcode "JO" [.J .b]) (.plain [.f8 rel]) s

/-- 71: JNO Jb (R376). -/
def execJno71 (rel : BitVec 8) (s : State) : Host.Outcome State Fault Refusal :=
  serveRow (.one 0x71#8) (opcode "JNO" [.J .b]) (.plain [.f8 rel]) s

/-- 72: JB Jb (R377). -/
def execJb72 (rel : BitVec 8) (s : State) : Host.Outcome State Fault Refusal :=
  serveRow (.one 0x72#8) (opcode "JB" [.J .b]) (.plain [.f8 rel]) s

/-- 73: JNB Jb (R378). -/
def execJnb73 (rel : BitVec 8) (s : State) : Host.Outcome State Fault Refusal :=
  serveRow (.one 0x73#8) (opcode "JNB" [.J .b]) (.plain [.f8 rel]) s

/-- 74: JZ Jb (R379). -/
def execJz74 (rel : BitVec 8) (s : State) : Host.Outcome State Fault Refusal :=
  serveRow (.one 0x74#8) (opcode "JZ" [.J .b]) (.plain [.f8 rel]) s

/-- 75: JNZ Jb (R380). -/
def execJnz75 (rel : BitVec 8) (s : State) : Host.Outcome State Fault Refusal :=
  serveRow (.one 0x75#8) (opcode "JNZ" [.J .b]) (.plain [.f8 rel]) s

/-- 76: JBE Jb (R381). -/
def execJbe76 (rel : BitVec 8) (s : State) : Host.Outcome State Fault Refusal :=
  serveRow (.one 0x76#8) (opcode "JBE" [.J .b]) (.plain [.f8 rel]) s

/-- 77: JNBE Jb (R382). -/
def execJnbe77 (rel : BitVec 8) (s : State) : Host.Outcome State Fault Refusal :=
  serveRow (.one 0x77#8) (opcode "JNBE" [.J .b]) (.plain [.f8 rel]) s

/-- 78: JS Jb (R383). -/
def execJs78 (rel : BitVec 8) (s : State) : Host.Outcome State Fault Refusal :=
  serveRow (.one 0x78#8) (opcode "JS" [.J .b]) (.plain [.f8 rel]) s

/-- 79: JNS Jb (R384). -/
def execJns79 (rel : BitVec 8) (s : State) : Host.Outcome State Fault Refusal :=
  serveRow (.one 0x79#8) (opcode "JNS" [.J .b]) (.plain [.f8 rel]) s

/-- 7A: JP Jb (R385). -/
def execJp7A (rel : BitVec 8) (s : State) : Host.Outcome State Fault Refusal :=
  serveRow (.one 0x7A#8) (opcode "JP" [.J .b]) (.plain [.f8 rel]) s

/-- 7B: JNP Jb (R386). -/
def execJnp7B (rel : BitVec 8) (s : State) : Host.Outcome State Fault Refusal :=
  serveRow (.one 0x7B#8) (opcode "JNP" [.J .b]) (.plain [.f8 rel]) s

/-- 7C: JL Jb (R387). -/
def execJl7C (rel : BitVec 8) (s : State) : Host.Outcome State Fault Refusal :=
  serveRow (.one 0x7C#8) (opcode "JL" [.J .b]) (.plain [.f8 rel]) s

/-- 7D: JNL Jb (R388). -/
def execJnl7D (rel : BitVec 8) (s : State) : Host.Outcome State Fault Refusal :=
  serveRow (.one 0x7D#8) (opcode "JNL" [.J .b]) (.plain [.f8 rel]) s

/-- 7E: JLE Jb (R389). -/
def execJle7E (rel : BitVec 8) (s : State) : Host.Outcome State Fault Refusal :=
  serveRow (.one 0x7E#8) (opcode "JLE" [.J .b]) (.plain [.f8 rel]) s

/-- 7F: JNLE Jb (R390). -/
def execJnle7F (rel : BitVec 8) (s : State) : Host.Outcome State Fault Refusal :=
  serveRow (.one 0x7F#8) (opcode "JNLE" [.J .b]) (.plain [.f8 rel]) s

/-- 80 /0: ADD Eb, Ib (R392). -/
def execAdd80s0 (e : Rm) (imm : BitVec 8) (s : State) : Host.Outcome State Fault Refusal :=
  serveRow (.one 0x80#8) (opcode "ADD" [.E .b, .I .b]) (.block 0#3 e [.f8 imm]) s

/-- 80 /1: OR Eb, Ib (R393). -/
def execOr80s1 (e : Rm) (imm : BitVec 8) (s : State) : Host.Outcome State Fault Refusal :=
  serveRow (.one 0x80#8) (opcode "OR" [.E .b, .I .b]) (.block 1#3 e [.f8 imm]) s

/-- 80 /2: ADC Eb, Ib (R394). -/
def execAdc80s2 (e : Rm) (imm : BitVec 8) (s : State) : Host.Outcome State Fault Refusal :=
  serveRow (.one 0x80#8) (opcode "ADC" [.E .b, .I .b]) (.block 2#3 e [.f8 imm]) s

/-- 80 /3: SBB Eb, Ib (R395). -/
def execSbb80s3 (e : Rm) (imm : BitVec 8) (s : State) : Host.Outcome State Fault Refusal :=
  serveRow (.one 0x80#8) (opcode "SBB" [.E .b, .I .b]) (.block 3#3 e [.f8 imm]) s

/-- 80 /4: AND Eb, Ib (R396). -/
def execAnd80s4 (e : Rm) (imm : BitVec 8) (s : State) : Host.Outcome State Fault Refusal :=
  serveRow (.one 0x80#8) (opcode "AND" [.E .b, .I .b]) (.block 4#3 e [.f8 imm]) s

/-- 80 /5: SUB Eb, Ib (R397). -/
def execSub80s5 (e : Rm) (imm : BitVec 8) (s : State) : Host.Outcome State Fault Refusal :=
  serveRow (.one 0x80#8) (opcode "SUB" [.E .b, .I .b]) (.block 5#3 e [.f8 imm]) s

/-- 80 /6: XOR Eb, Ib (R398). -/
def execXor80s6 (e : Rm) (imm : BitVec 8) (s : State) : Host.Outcome State Fault Refusal :=
  serveRow (.one 0x80#8) (opcode "XOR" [.E .b, .I .b]) (.block 6#3 e [.f8 imm]) s

/-- 80 /7: CMP Eb, Ib (R399). -/
def execCmp80s7 (e : Rm) (imm : BitVec 8) (s : State) : Host.Outcome State Fault Refusal :=
  serveRow (.one 0x80#8) (opcode "CMP" [.E .b, .I .b]) (.block 7#3 e [.f8 imm]) s

/-- 81 /0: ADD Ev, Iv (R401). -/
def execAdd81s0 (e : Rm) (imm : Field) (s : State) : Host.Outcome State Fault Refusal :=
  serveRow (.one 0x81#8) (opcode "ADD" [.E .v, .I .v]) (.block 0#3 e [imm]) s

/-- 81 /1: OR Ev, Iv (R402). -/
def execOr81s1 (e : Rm) (imm : Field) (s : State) : Host.Outcome State Fault Refusal :=
  serveRow (.one 0x81#8) (opcode "OR" [.E .v, .I .v]) (.block 1#3 e [imm]) s

/-- 81 /2: ADC Ev, Iv (R403). -/
def execAdc81s2 (e : Rm) (imm : Field) (s : State) : Host.Outcome State Fault Refusal :=
  serveRow (.one 0x81#8) (opcode "ADC" [.E .v, .I .v]) (.block 2#3 e [imm]) s

/-- 81 /3: SBB Ev, Iv (R404). -/
def execSbb81s3 (e : Rm) (imm : Field) (s : State) : Host.Outcome State Fault Refusal :=
  serveRow (.one 0x81#8) (opcode "SBB" [.E .v, .I .v]) (.block 3#3 e [imm]) s

/-- 81 /4: AND Ev, Iv (R405). -/
def execAnd81s4 (e : Rm) (imm : Field) (s : State) : Host.Outcome State Fault Refusal :=
  serveRow (.one 0x81#8) (opcode "AND" [.E .v, .I .v]) (.block 4#3 e [imm]) s

/-- 81 /5: SUB Ev, Iv (R406). -/
def execSub81s5 (e : Rm) (imm : Field) (s : State) : Host.Outcome State Fault Refusal :=
  serveRow (.one 0x81#8) (opcode "SUB" [.E .v, .I .v]) (.block 5#3 e [imm]) s

/-- 81 /6: XOR Ev, Iv (R407). -/
def execXor81s6 (e : Rm) (imm : Field) (s : State) : Host.Outcome State Fault Refusal :=
  serveRow (.one 0x81#8) (opcode "XOR" [.E .v, .I .v]) (.block 6#3 e [imm]) s

/-- 81 /7: CMP Ev, Iv (R408). -/
def execCmp81s7 (e : Rm) (imm : Field) (s : State) : Host.Outcome State Fault Refusal :=
  serveRow (.one 0x81#8) (opcode "CMP" [.E .v, .I .v]) (.block 7#3 e [imm]) s

/-- 82 /0: ADD Eb, Ib (R410). -/
def execAdd82s0 (e : Rm) (imm : BitVec 8) (s : State) : Host.Outcome State Fault Refusal :=
  serveRow (.one 0x82#8) (opcode "ADD" [.E .b, .I .b]) (.block 0#3 e [.f8 imm]) s

/-- 82 /1: OR Eb, Ib (R411). -/
def execOr82s1 (e : Rm) (imm : BitVec 8) (s : State) : Host.Outcome State Fault Refusal :=
  serveRow (.one 0x82#8) (opcode "OR" [.E .b, .I .b]) (.block 1#3 e [.f8 imm]) s

/-- 82 /2: ADC Eb, Ib (R412). -/
def execAdc82s2 (e : Rm) (imm : BitVec 8) (s : State) : Host.Outcome State Fault Refusal :=
  serveRow (.one 0x82#8) (opcode "ADC" [.E .b, .I .b]) (.block 2#3 e [.f8 imm]) s

/-- 82 /3: SBB Eb, Ib (R413). -/
def execSbb82s3 (e : Rm) (imm : BitVec 8) (s : State) : Host.Outcome State Fault Refusal :=
  serveRow (.one 0x82#8) (opcode "SBB" [.E .b, .I .b]) (.block 3#3 e [.f8 imm]) s

/-- 82 /4: AND Eb, Ib (R414). -/
def execAnd82s4 (e : Rm) (imm : BitVec 8) (s : State) : Host.Outcome State Fault Refusal :=
  serveRow (.one 0x82#8) (opcode "AND" [.E .b, .I .b]) (.block 4#3 e [.f8 imm]) s

/-- 82 /5: SUB Eb, Ib (R415). -/
def execSub82s5 (e : Rm) (imm : BitVec 8) (s : State) : Host.Outcome State Fault Refusal :=
  serveRow (.one 0x82#8) (opcode "SUB" [.E .b, .I .b]) (.block 5#3 e [.f8 imm]) s

/-- 82 /6: XOR Eb, Ib (R416). -/
def execXor82s6 (e : Rm) (imm : BitVec 8) (s : State) : Host.Outcome State Fault Refusal :=
  serveRow (.one 0x82#8) (opcode "XOR" [.E .b, .I .b]) (.block 6#3 e [.f8 imm]) s

/-- 82 /7: CMP Eb, Ib (R417). -/
def execCmp82s7 (e : Rm) (imm : BitVec 8) (s : State) : Host.Outcome State Fault Refusal :=
  serveRow (.one 0x82#8) (opcode "CMP" [.E .b, .I .b]) (.block 7#3 e [.f8 imm]) s

/-- 83 /0: ADD Ev, Ibs (R419). -/
def execAdd83s0 (e : Rm) (imm : BitVec 8) (s : State) : Host.Outcome State Fault Refusal :=
  serveRow (.one 0x83#8) (opcode "ADD" [.E .v, .I .bs]) (.block 0#3 e [.f8 imm]) s

/-- 83 /1: OR Ev, Ibs (R420). -/
def execOr83s1 (e : Rm) (imm : BitVec 8) (s : State) : Host.Outcome State Fault Refusal :=
  serveRow (.one 0x83#8) (opcode "OR" [.E .v, .I .bs]) (.block 1#3 e [.f8 imm]) s

/-- 83 /2: ADC Ev, Ibs (R421). -/
def execAdc83s2 (e : Rm) (imm : BitVec 8) (s : State) : Host.Outcome State Fault Refusal :=
  serveRow (.one 0x83#8) (opcode "ADC" [.E .v, .I .bs]) (.block 2#3 e [.f8 imm]) s

/-- 83 /3: SBB Ev, Ibs (R422). -/
def execSbb83s3 (e : Rm) (imm : BitVec 8) (s : State) : Host.Outcome State Fault Refusal :=
  serveRow (.one 0x83#8) (opcode "SBB" [.E .v, .I .bs]) (.block 3#3 e [.f8 imm]) s

/-- 83 /4: AND Ev, Ibs (R423). -/
def execAnd83s4 (e : Rm) (imm : BitVec 8) (s : State) : Host.Outcome State Fault Refusal :=
  serveRow (.one 0x83#8) (opcode "AND" [.E .v, .I .bs]) (.block 4#3 e [.f8 imm]) s

/-- 83 /5: SUB Ev, Ibs (R424). -/
def execSub83s5 (e : Rm) (imm : BitVec 8) (s : State) : Host.Outcome State Fault Refusal :=
  serveRow (.one 0x83#8) (opcode "SUB" [.E .v, .I .bs]) (.block 5#3 e [.f8 imm]) s

/-- 83 /6: XOR Ev, Ibs (R425). -/
def execXor83s6 (e : Rm) (imm : BitVec 8) (s : State) : Host.Outcome State Fault Refusal :=
  serveRow (.one 0x83#8) (opcode "XOR" [.E .v, .I .bs]) (.block 6#3 e [.f8 imm]) s

/-- 83 /7: CMP Ev, Ibs (R426). -/
def execCmp83s7 (e : Rm) (imm : BitVec 8) (s : State) : Host.Outcome State Fault Refusal :=
  serveRow (.one 0x83#8) (opcode "CMP" [.E .v, .I .bs]) (.block 7#3 e [.f8 imm]) s

/-- 84: TEST Eb, Gb (R427). -/
def execTest84 (reg : BitVec 3) (e : Rm) (s : State) : Host.Outcome State Fault Refusal :=
  serveRow (.one 0x84#8) (opcode "TEST" [.E .b, .G .b]) (.block reg e []) s

/-- 85: TEST Ev, Gv (R428). -/
def execTest85 (reg : BitVec 3) (e : Rm) (s : State) : Host.Outcome State Fault Refusal :=
  serveRow (.one 0x85#8) (opcode "TEST" [.E .v, .G .v]) (.block reg e []) s

/-- 86: XCHG Eb, Gb (R429). -/
def execXchg86 (reg : BitVec 3) (e : Rm) (s : State) : Host.Outcome State Fault Refusal :=
  serveRow (.one 0x86#8) (opcode "XCHG" [.E .b, .G .b]) (.block reg e []) s

/-- 87: XCHG Ev, Gv (R430). -/
def execXchg87 (reg : BitVec 3) (e : Rm) (s : State) : Host.Outcome State Fault Refusal :=
  serveRow (.one 0x87#8) (opcode "XCHG" [.E .v, .G .v]) (.block reg e []) s

/-- 88: MOV Eb, Gb (R431). -/
def execMov88 (reg : BitVec 3) (e : Rm) (s : State) : Host.Outcome State Fault Refusal :=
  serveRow (.one 0x88#8) (opcode "MOV" [.E .b, .G .b]) (.block reg e []) s

/-- 89: MOV Ev, Gv (R432). -/
def execMov89 (reg : BitVec 3) (e : Rm) (s : State) : Host.Outcome State Fault Refusal :=
  serveRow (.one 0x89#8) (opcode "MOV" [.E .v, .G .v]) (.block reg e []) s

/-- 8A: MOV Gb, Eb (R433). -/
def execMov8A (reg : BitVec 3) (e : Rm) (s : State) : Host.Outcome State Fault Refusal :=
  serveRow (.one 0x8A#8) (opcode "MOV" [.G .b, .E .b]) (.block reg e []) s

/-- 8B: MOV Gv, Ev (R434). -/
def execMov8B (reg : BitVec 3) (e : Rm) (s : State) : Host.Outcome State Fault Refusal :=
  serveRow (.one 0x8B#8) (opcode "MOV" [.G .v, .E .v]) (.block reg e []) s

/-- 8C: MOV Ew, Sw (R435). -/
def execMov8C (reg : BitVec 3) (e : Rm) (s : State) : Host.Outcome State Fault Refusal :=
  serveRow (.one 0x8C#8) (opcode "MOV" [.E .w, .S .w]) (.block reg e []) s

/-- 8D: LEA Gv, M (R436). -/
def execLea8D (reg : BitVec 3) (e : Rm) (s : State) : Host.Outcome State Fault Refusal :=
  serveRow (.one 0x8D#8) (opcode "LEA" [.G .v, .M none]) (.block reg e []) s

/-- 8E: MOV Sw, Ew (R437). -/
def execMov8E (reg : BitVec 3) (e : Rm) (s : State) : Host.Outcome State Fault Refusal :=
  serveRow (.one 0x8E#8) (opcode "MOV" [.S .w, .E .w]) (.block reg e []) s

/-- 8F /0: POP Ev (R439). -/
def execPop8Fs0 (e : Rm) (s : State) : Host.Outcome State Fault Refusal :=
  serveRow (.one 0x8F#8) (opcode "POP" [.E .v]) (.block 0#3 e []) s

end Sys2Proof.Machine
end

