-- ==== Sys2Proof/Machine/OneByte90.lean ====
section
/-!
DEFINITION. 46_onebyte_90_CF.md: the rows of the one-byte opcodes 90 to CF. A row is its key,
its descriptor and its encoded fields; what the block does with them is `serveRow`.
-/

namespace Sys2Proof.Machine

/-- 90: NOP (R440). -/
def execNop90 (s : State) : Host.Outcome State Fault Refusal :=
  serveRow (.one 0x90#8) (opcode "NOP" []) (.plain []) s

/-- 91: XCHG Zv, eAX (R441). -/
def execXchg91 (s : State) : Host.Outcome State Fault Refusal :=
  serveRow (.one 0x91#8) (opcode "XCHG" [.Z .v, .fixed .eAX]) (.plain []) s

/-- 92: XCHG Zv, eAX (R441). -/
def execXchg92 (s : State) : Host.Outcome State Fault Refusal :=
  serveRow (.one 0x92#8) (opcode "XCHG" [.Z .v, .fixed .eAX]) (.plain []) s

/-- 93: XCHG Zv, eAX (R441). -/
def execXchg93 (s : State) : Host.Outcome State Fault Refusal :=
  serveRow (.one 0x93#8) (opcode "XCHG" [.Z .v, .fixed .eAX]) (.plain []) s

/-- 94: XCHG Zv, eAX (R441). -/
def execXchg94 (s : State) : Host.Outcome State Fault Refusal :=
  serveRow (.one 0x94#8) (opcode "XCHG" [.Z .v, .fixed .eAX]) (.plain []) s

/-- 95: XCHG Zv, eAX (R441). -/
def execXchg95 (s : State) : Host.Outcome State Fault Refusal :=
  serveRow (.one 0x95#8) (opcode "XCHG" [.Z .v, .fixed .eAX]) (.plain []) s

/-- 96: XCHG Zv, eAX (R441). -/
def execXchg96 (s : State) : Host.Outcome State Fault Refusal :=
  serveRow (.one 0x96#8) (opcode "XCHG" [.Z .v, .fixed .eAX]) (.plain []) s

/-- 97: XCHG Zv, eAX (R441). -/
def execXchg97 (s : State) : Host.Outcome State Fault Refusal :=
  serveRow (.one 0x97#8) (opcode "XCHG" [.Z .v, .fixed .eAX]) (.plain []) s

/-- 98: CBW (R442). -/
def execCbw98 (s : State) : Host.Outcome State Fault Refusal :=
  serveRow (.one 0x98#8) (opcode "CBW" []) (.plain []) s

/-- 99: CWD (R443). -/
def execCwd99 (s : State) : Host.Outcome State Fault Refusal :=
  serveRow (.one 0x99#8) (opcode "CWD" []) (.plain []) s

/-- 9A: CALLF Iv, Iw (R444). -/
def execCallf9A (off : Field) (sel : BitVec 16) (s : State) : Host.Outcome State Fault Refusal :=
  serveRow (.one 0x9A#8) (opcode "CALLF" [.I .v, .I .w]) (.plain [off, .f16 sel]) s

/-- 9B: WAIT (R445). -/
def execWait9B (s : State) : Host.Outcome State Fault Refusal :=
  serveRow (.one 0x9B#8) (opcode "WAIT" []) (.plain []) s

/-- 9C: PUSHF (R446). -/
def execPushf9C (s : State) : Host.Outcome State Fault Refusal :=
  serveRow (.one 0x9C#8) (opcode "PUSHF" []) (.plain []) s

/-- 9D: POPF (R447). -/
def execPopf9D (s : State) : Host.Outcome State Fault Refusal :=
  serveRow (.one 0x9D#8) (opcode "POPF" []) (.plain []) s

/-- 9E: SAHF (R448). -/
def execSahf9E (s : State) : Host.Outcome State Fault Refusal :=
  serveRow (.one 0x9E#8) (opcode "SAHF" []) (.plain []) s

/-- 9F: LAHF (R449). -/
def execLahf9F (s : State) : Host.Outcome State Fault Refusal :=
  serveRow (.one 0x9F#8) (opcode "LAHF" []) (.plain []) s

/-- A0: MOV AL, Ob (R450). -/
def execMovA0 (off : Field) (s : State) : Host.Outcome State Fault Refusal :=
  serveRow (.one 0xA0#8) (opcode "MOV" [.fixed .al, .O .b]) (.plain [off]) s

/-- A1: MOV eAX, Ov (R451). -/
def execMovA1 (off : Field) (s : State) : Host.Outcome State Fault Refusal :=
  serveRow (.one 0xA1#8) (opcode "MOV" [.fixed .eAX, .O .v]) (.plain [off]) s

/-- A2: MOV Ob, AL (R452). -/
def execMovA2 (off : Field) (s : State) : Host.Outcome State Fault Refusal :=
  serveRow (.one 0xA2#8) (opcode "MOV" [.O .b, .fixed .al]) (.plain [off]) s

/-- A3: MOV Ov, eAX (R453). -/
def execMovA3 (off : Field) (s : State) : Host.Outcome State Fault Refusal :=
  serveRow (.one 0xA3#8) (opcode "MOV" [.O .v, .fixed .eAX]) (.plain [off]) s

/-- A4: MOVSB Xb, Yb (R454). -/
def execMovsbA4 (s : State) : Host.Outcome State Fault Refusal :=
  serveRow (.one 0xA4#8) (opcode "MOVSB" [.X .b, .Y .b]) (.plain []) s

/-- A5: MOVSW Xv, Yv (R455). -/
def execMovswA5 (s : State) : Host.Outcome State Fault Refusal :=
  serveRow (.one 0xA5#8) (opcode "MOVSW" [.X .v, .Y .v]) (.plain []) s

/-- A6: CMPSB Xb, Yb (R456). -/
def execCmpsbA6 (s : State) : Host.Outcome State Fault Refusal :=
  serveRow (.one 0xA6#8) (opcode "CMPSB" [.X .b, .Y .b]) (.plain []) s

/-- A7: CMPSW Xv, Yv (R457). -/
def execCmpswA7 (s : State) : Host.Outcome State Fault Refusal :=
  serveRow (.one 0xA7#8) (opcode "CMPSW" [.X .v, .Y .v]) (.plain []) s

/-- A8: TEST AL, Ib (R458). -/
def execTestA8 (imm : BitVec 8) (s : State) : Host.Outcome State Fault Refusal :=
  serveRow (.one 0xA8#8) (opcode "TEST" [.fixed .al, .I .b]) (.plain [.f8 imm]) s

/-- A9: TEST eAX, Iv (R459). -/
def execTestA9 (imm : Field) (s : State) : Host.Outcome State Fault Refusal :=
  serveRow (.one 0xA9#8) (opcode "TEST" [.fixed .eAX, .I .v]) (.plain [imm]) s

/-- AA: STOSB Yb, AL (R460). -/
def execStosbAA (s : State) : Host.Outcome State Fault Refusal :=
  serveRow (.one 0xAA#8) (opcode "STOSB" [.Y .b, .fixed .al]) (.plain []) s

/-- AB: STOSW Yv, eAX (R461). -/
def execStoswAB (s : State) : Host.Outcome State Fault Refusal :=
  serveRow (.one 0xAB#8) (opcode "STOSW" [.Y .v, .fixed .eAX]) (.plain []) s

/-- AC: LODSB AL, Xb (R462). -/
def execLodsbAC (s : State) : Host.Outcome State Fault Refusal :=
  serveRow (.one 0xAC#8) (opcode "LODSB" [.fixed .al, .X .b]) (.plain []) s

/-- AD: LODSW eAX, Xv (R463). -/
def execLodswAD (s : State) : Host.Outcome State Fault Refusal :=
  serveRow (.one 0xAD#8) (opcode "LODSW" [.fixed .eAX, .X .v]) (.plain []) s

/-- AE: SCASB AL, Yb (R464). -/
def execScasbAE (s : State) : Host.Outcome State Fault Refusal :=
  serveRow (.one 0xAE#8) (opcode "SCASB" [.fixed .al, .Y .b]) (.plain []) s

/-- AF: SCASW eAX, Yv (R465). -/
def execScaswAF (s : State) : Host.Outcome State Fault Refusal :=
  serveRow (.one 0xAF#8) (opcode "SCASW" [.fixed .eAX, .Y .v]) (.plain []) s

/-- B0+r: MOV Zb, Ib (R466). -/
def execMovB0 (r : BitVec 3) (imm : BitVec 8) (s : State) : Host.Outcome State Fault Refusal :=
  serveRow (.one (opcodeReg 0xB0#8 r)) (opcode "MOV" [.Z .b, .I .b]) (.plain [.f8 imm]) s

/-- B8+r: MOV Zv, Iv (R467). -/
def execMovB8 (r : BitVec 3) (imm : Field) (s : State) : Host.Outcome State Fault Refusal :=
  serveRow (.one (opcodeReg 0xB8#8 r)) (opcode "MOV" [.Z .v, .I .v]) (.plain [imm]) s

/-- C0 /0: ROL Eb, Ib (R469). -/
def execRolC0s0 (e : Rm) (imm : BitVec 8) (s : State) : Host.Outcome State Fault Refusal :=
  serveRow (.one 0xC0#8) (opcode "ROL" [.E .b, .I .b]) (.block 0#3 e [.f8 imm]) s

/-- C0 /1: ROR Eb, Ib (R470). -/
def execRorC0s1 (e : Rm) (imm : BitVec 8) (s : State) : Host.Outcome State Fault Refusal :=
  serveRow (.one 0xC0#8) (opcode "ROR" [.E .b, .I .b]) (.block 1#3 e [.f8 imm]) s

/-- C0 /2: RCL Eb, Ib (R471). -/
def execRclC0s2 (e : Rm) (imm : BitVec 8) (s : State) : Host.Outcome State Fault Refusal :=
  serveRow (.one 0xC0#8) (opcode "RCL" [.E .b, .I .b]) (.block 2#3 e [.f8 imm]) s

/-- C0 /3: RCR Eb, Ib (R472). -/
def execRcrC0s3 (e : Rm) (imm : BitVec 8) (s : State) : Host.Outcome State Fault Refusal :=
  serveRow (.one 0xC0#8) (opcode "RCR" [.E .b, .I .b]) (.block 3#3 e [.f8 imm]) s

/-- C0 /4: SHL Eb, Ib (R473). -/
def execShlC0s4 (e : Rm) (imm : BitVec 8) (s : State) : Host.Outcome State Fault Refusal :=
  serveRow (.one 0xC0#8) (opcode "SHL" [.E .b, .I .b]) (.block 4#3 e [.f8 imm]) s

/-- C0 /5: SHR Eb, Ib (R474). -/
def execShrC0s5 (e : Rm) (imm : BitVec 8) (s : State) : Host.Outcome State Fault Refusal :=
  serveRow (.one 0xC0#8) (opcode "SHR" [.E .b, .I .b]) (.block 5#3 e [.f8 imm]) s

/-- C0 /7: SAR Eb, Ib (R475). -/
def execSarC0s7 (e : Rm) (imm : BitVec 8) (s : State) : Host.Outcome State Fault Refusal :=
  serveRow (.one 0xC0#8) (opcode "SAR" [.E .b, .I .b]) (.block 7#3 e [.f8 imm]) s

/-- C1 /0: ROL Ev, Ib (R477). -/
def execRolC1s0 (e : Rm) (imm : BitVec 8) (s : State) : Host.Outcome State Fault Refusal :=
  serveRow (.one 0xC1#8) (opcode "ROL" [.E .v, .I .b]) (.block 0#3 e [.f8 imm]) s

/-- C1 /1: ROR Ev, Ib (R478). -/
def execRorC1s1 (e : Rm) (imm : BitVec 8) (s : State) : Host.Outcome State Fault Refusal :=
  serveRow (.one 0xC1#8) (opcode "ROR" [.E .v, .I .b]) (.block 1#3 e [.f8 imm]) s

/-- C1 /2: RCL Ev, Ib (R479). -/
def execRclC1s2 (e : Rm) (imm : BitVec 8) (s : State) : Host.Outcome State Fault Refusal :=
  serveRow (.one 0xC1#8) (opcode "RCL" [.E .v, .I .b]) (.block 2#3 e [.f8 imm]) s

/-- C1 /3: RCR Ev, Ib (R480). -/
def execRcrC1s3 (e : Rm) (imm : BitVec 8) (s : State) : Host.Outcome State Fault Refusal :=
  serveRow (.one 0xC1#8) (opcode "RCR" [.E .v, .I .b]) (.block 3#3 e [.f8 imm]) s

/-- C1 /4: SHL Ev, Ib (R481). -/
def execShlC1s4 (e : Rm) (imm : BitVec 8) (s : State) : Host.Outcome State Fault Refusal :=
  serveRow (.one 0xC1#8) (opcode "SHL" [.E .v, .I .b]) (.block 4#3 e [.f8 imm]) s

/-- C1 /5: SHR Ev, Ib (R482). -/
def execShrC1s5 (e : Rm) (imm : BitVec 8) (s : State) : Host.Outcome State Fault Refusal :=
  serveRow (.one 0xC1#8) (opcode "SHR" [.E .v, .I .b]) (.block 5#3 e [.f8 imm]) s

/-- C1 /7: SAR Ev, Ib (R483). -/
def execSarC1s7 (e : Rm) (imm : BitVec 8) (s : State) : Host.Outcome State Fault Refusal :=
  serveRow (.one 0xC1#8) (opcode "SAR" [.E .v, .I .b]) (.block 7#3 e [.f8 imm]) s

/-- C2: RET Iw (R484). -/
def execRetC2 (imm : BitVec 16) (s : State) : Host.Outcome State Fault Refusal :=
  serveRow (.one 0xC2#8) (opcode "RET" [.I .w]) (.plain [.f16 imm]) s

/-- C3: RET (R485). -/
def execRetC3 (s : State) : Host.Outcome State Fault Refusal :=
  serveRow (.one 0xC3#8) (opcode "RET" []) (.plain []) s

/-- C4: LES Gv, Mp (R486). -/
def execLesC4 (reg : BitVec 3) (e : Rm) (s : State) : Host.Outcome State Fault Refusal :=
  serveRow (.one 0xC4#8) (opcode "LES" [.G .v, .M (some .p)]) (.block reg e []) s

/-- C5: LDS Gv, Mp (R487). -/
def execLdsC5 (reg : BitVec 3) (e : Rm) (s : State) : Host.Outcome State Fault Refusal :=
  serveRow (.one 0xC5#8) (opcode "LDS" [.G .v, .M (some .p)]) (.block reg e []) s

/-- C6 /0: MOV Eb, Ib (R489). -/
def execMovC6s0 (e : Rm) (imm : BitVec 8) (s : State) : Host.Outcome State Fault Refusal :=
  serveRow (.one 0xC6#8) (opcode "MOV" [.E .b, .I .b]) (.block 0#3 e [.f8 imm]) s

/-- C7 /0: MOV Ev, Iv (R491). -/
def execMovC7s0 (e : Rm) (imm : Field) (s : State) : Host.Outcome State Fault Refusal :=
  serveRow (.one 0xC7#8) (opcode "MOV" [.E .v, .I .v]) (.block 0#3 e [imm]) s

/-- C8: ENTER Iw, Ib (R492). -/
def execEnterC8 (size : BitVec 16) (level : BitVec 8) (s : State) : Host.Outcome State Fault Refusal :=
  serveRow (.one 0xC8#8) (opcode "ENTER" [.I .w, .I .b]) (.plain [.f16 size, .f8 level]) s

/-- C9: LEAVE (R493). -/
def execLeaveC9 (s : State) : Host.Outcome State Fault Refusal :=
  serveRow (.one 0xC9#8) (opcode "LEAVE" []) (.plain []) s

/-- CA: RETF Iw (R494). -/
def execRetfCA (imm : BitVec 16) (s : State) : Host.Outcome State Fault Refusal :=
  serveRow (.one 0xCA#8) (opcode "RETF" [.I .w]) (.plain [.f16 imm]) s

/-- CB: RETF (R495). -/
def execRetfCB (s : State) : Host.Outcome State Fault Refusal :=
  serveRow (.one 0xCB#8) (opcode "RETF" []) (.plain []) s

/-- CC: INT3 (R496). -/
def execInt3CC (s : State) : Host.Outcome State Fault Refusal :=
  serveRow (.one 0xCC#8) (opcode "INT3" []) (.plain []) s

/-- CD: INT Ib (R497). -/
def execIntCD (imm : BitVec 8) (s : State) : Host.Outcome State Fault Refusal :=
  serveRow (.one 0xCD#8) (opcode "INT" [.I .b]) (.plain [.f8 imm]) s

/-- CE: INTO (R498). -/
def execIntoCE (s : State) : Host.Outcome State Fault Refusal :=
  serveRow (.one 0xCE#8) (opcode "INTO" []) (.plain []) s

/-- CF: IRET (R499). -/
def execIretCF (s : State) : Host.Outcome State Fault Refusal :=
  serveRow (.one 0xCF#8) (opcode "IRET" []) (.plain []) s

end Sys2Proof.Machine
end

