-- ==== Sys2Proof/Machine/OneByteD0.lean ====
section
/-!
DEFINITION. 47_onebyte_D0_DF.md: the rows of the one-byte opcodes D0 to DF. A row is its key,
its descriptor and its encoded fields; what the block does with them is `serveRow`.
-/

namespace Sys2Proof.Machine

/-- D0 /0: ROL Eb, 1 (R501). -/
def execRolD0s0 (e : Rm) (s : State) : Host.Outcome State Fault Refusal :=
  serveRow (.one 0xD0#8) (opcode "ROL" [.E .b, .one]) (.block 0#3 e []) s

/-- D0 /1: ROR Eb, 1 (R502). -/
def execRorD0s1 (e : Rm) (s : State) : Host.Outcome State Fault Refusal :=
  serveRow (.one 0xD0#8) (opcode "ROR" [.E .b, .one]) (.block 1#3 e []) s

/-- D0 /2: RCL Eb, 1 (R503). -/
def execRclD0s2 (e : Rm) (s : State) : Host.Outcome State Fault Refusal :=
  serveRow (.one 0xD0#8) (opcode "RCL" [.E .b, .one]) (.block 2#3 e []) s

/-- D0 /3: RCR Eb, 1 (R504). -/
def execRcrD0s3 (e : Rm) (s : State) : Host.Outcome State Fault Refusal :=
  serveRow (.one 0xD0#8) (opcode "RCR" [.E .b, .one]) (.block 3#3 e []) s

/-- D0 /4: SHL Eb, 1 (R505). -/
def execShlD0s4 (e : Rm) (s : State) : Host.Outcome State Fault Refusal :=
  serveRow (.one 0xD0#8) (opcode "SHL" [.E .b, .one]) (.block 4#3 e []) s

/-- D0 /5: SHR Eb, 1 (R506). -/
def execShrD0s5 (e : Rm) (s : State) : Host.Outcome State Fault Refusal :=
  serveRow (.one 0xD0#8) (opcode "SHR" [.E .b, .one]) (.block 5#3 e []) s

/-- D0 /7: SAR Eb, 1 (R507). -/
def execSarD0s7 (e : Rm) (s : State) : Host.Outcome State Fault Refusal :=
  serveRow (.one 0xD0#8) (opcode "SAR" [.E .b, .one]) (.block 7#3 e []) s

/-- D1 /0: ROL Ev, 1 (R509). -/
def execRolD1s0 (e : Rm) (s : State) : Host.Outcome State Fault Refusal :=
  serveRow (.one 0xD1#8) (opcode "ROL" [.E .v, .one]) (.block 0#3 e []) s

/-- D1 /1: ROR Ev, 1 (R510). -/
def execRorD1s1 (e : Rm) (s : State) : Host.Outcome State Fault Refusal :=
  serveRow (.one 0xD1#8) (opcode "ROR" [.E .v, .one]) (.block 1#3 e []) s

/-- D1 /2: RCL Ev, 1 (R511). -/
def execRclD1s2 (e : Rm) (s : State) : Host.Outcome State Fault Refusal :=
  serveRow (.one 0xD1#8) (opcode "RCL" [.E .v, .one]) (.block 2#3 e []) s

/-- D1 /3: RCR Ev, 1 (R512). -/
def execRcrD1s3 (e : Rm) (s : State) : Host.Outcome State Fault Refusal :=
  serveRow (.one 0xD1#8) (opcode "RCR" [.E .v, .one]) (.block 3#3 e []) s

/-- D1 /4: SHL Ev, 1 (R513). -/
def execShlD1s4 (e : Rm) (s : State) : Host.Outcome State Fault Refusal :=
  serveRow (.one 0xD1#8) (opcode "SHL" [.E .v, .one]) (.block 4#3 e []) s

/-- D1 /5: SHR Ev, 1 (R514). -/
def execShrD1s5 (e : Rm) (s : State) : Host.Outcome State Fault Refusal :=
  serveRow (.one 0xD1#8) (opcode "SHR" [.E .v, .one]) (.block 5#3 e []) s

/-- D1 /7: SAR Ev, 1 (R515). -/
def execSarD1s7 (e : Rm) (s : State) : Host.Outcome State Fault Refusal :=
  serveRow (.one 0xD1#8) (opcode "SAR" [.E .v, .one]) (.block 7#3 e []) s

/-- D2 /0: ROL Eb, CL (R517). -/
def execRolD2s0 (e : Rm) (s : State) : Host.Outcome State Fault Refusal :=
  serveRow (.one 0xD2#8) (opcode "ROL" [.E .b, .fixed .cl]) (.block 0#3 e []) s

/-- D2 /1: ROR Eb, CL (R518). -/
def execRorD2s1 (e : Rm) (s : State) : Host.Outcome State Fault Refusal :=
  serveRow (.one 0xD2#8) (opcode "ROR" [.E .b, .fixed .cl]) (.block 1#3 e []) s

/-- D2 /2: RCL Eb, CL (R519). -/
def execRclD2s2 (e : Rm) (s : State) : Host.Outcome State Fault Refusal :=
  serveRow (.one 0xD2#8) (opcode "RCL" [.E .b, .fixed .cl]) (.block 2#3 e []) s

/-- D2 /3: RCR Eb, CL (R520). -/
def execRcrD2s3 (e : Rm) (s : State) : Host.Outcome State Fault Refusal :=
  serveRow (.one 0xD2#8) (opcode "RCR" [.E .b, .fixed .cl]) (.block 3#3 e []) s

/-- D2 /4: SHL Eb, CL (R521). -/
def execShlD2s4 (e : Rm) (s : State) : Host.Outcome State Fault Refusal :=
  serveRow (.one 0xD2#8) (opcode "SHL" [.E .b, .fixed .cl]) (.block 4#3 e []) s

/-- D2 /5: SHR Eb, CL (R522). -/
def execShrD2s5 (e : Rm) (s : State) : Host.Outcome State Fault Refusal :=
  serveRow (.one 0xD2#8) (opcode "SHR" [.E .b, .fixed .cl]) (.block 5#3 e []) s

/-- D2 /7: SAR Eb, CL (R523). -/
def execSarD2s7 (e : Rm) (s : State) : Host.Outcome State Fault Refusal :=
  serveRow (.one 0xD2#8) (opcode "SAR" [.E .b, .fixed .cl]) (.block 7#3 e []) s

/-- D3 /0: ROL Ev, CL (R525). -/
def execRolD3s0 (e : Rm) (s : State) : Host.Outcome State Fault Refusal :=
  serveRow (.one 0xD3#8) (opcode "ROL" [.E .v, .fixed .cl]) (.block 0#3 e []) s

/-- D3 /1: ROR Ev, CL (R526). -/
def execRorD3s1 (e : Rm) (s : State) : Host.Outcome State Fault Refusal :=
  serveRow (.one 0xD3#8) (opcode "ROR" [.E .v, .fixed .cl]) (.block 1#3 e []) s

/-- D3 /2: RCL Ev, CL (R527). -/
def execRclD3s2 (e : Rm) (s : State) : Host.Outcome State Fault Refusal :=
  serveRow (.one 0xD3#8) (opcode "RCL" [.E .v, .fixed .cl]) (.block 2#3 e []) s

/-- D3 /3: RCR Ev, CL (R528). -/
def execRcrD3s3 (e : Rm) (s : State) : Host.Outcome State Fault Refusal :=
  serveRow (.one 0xD3#8) (opcode "RCR" [.E .v, .fixed .cl]) (.block 3#3 e []) s

/-- D3 /4: SHL Ev, CL (R529). -/
def execShlD3s4 (e : Rm) (s : State) : Host.Outcome State Fault Refusal :=
  serveRow (.one 0xD3#8) (opcode "SHL" [.E .v, .fixed .cl]) (.block 4#3 e []) s

/-- D3 /5: SHR Ev, CL (R530). -/
def execShrD3s5 (e : Rm) (s : State) : Host.Outcome State Fault Refusal :=
  serveRow (.one 0xD3#8) (opcode "SHR" [.E .v, .fixed .cl]) (.block 5#3 e []) s

/-- D3 /7: SAR Ev, CL (R531). -/
def execSarD3s7 (e : Rm) (s : State) : Host.Outcome State Fault Refusal :=
  serveRow (.one 0xD3#8) (opcode "SAR" [.E .v, .fixed .cl]) (.block 7#3 e []) s

/-- D4: AAM Ib (R532). -/
def execAamD4 (imm : BitVec 8) (s : State) : Host.Outcome State Fault Refusal :=
  serveRow (.one 0xD4#8) (opcode "AAM" [.I .b]) (.plain [.f8 imm]) s

/-- D5: AAD Ib (R533). -/
def execAadD5 (imm : BitVec 8) (s : State) : Host.Outcome State Fault Refusal :=
  serveRow (.one 0xD5#8) (opcode "AAD" [.I .b]) (.plain [.f8 imm]) s

/-- D7: XLAT (R534). -/
def execXlatD7 (s : State) : Host.Outcome State Fault Refusal :=
  serveRow (.one 0xD7#8) (opcode "XLAT" []) (.plain []) s

/-- D8+r: ESC Fpu (R535). -/
def execEscD8 (r : BitVec 3) (s : State) : Host.Outcome State Fault Refusal :=
  serveRow (.one (opcodeReg 0xD8#8 r)) (opcode "ESC" [.fpu]) (.plain []) s

end Sys2Proof.Machine
end

