-- ==== Sys2Proof/Machine/OneByteE0.lean ====
section
/-!
DEFINITION. 48_onebyte_E0_FF.md: the rows of the one-byte opcodes E0 to FF. A row is its key,
its descriptor and its encoded fields; what the block does with them is `serveRow`.
-/

namespace Sys2Proof.Machine

/-- E0: LOOPNE Jb (R536). -/
def execLoopneE0 (rel : BitVec 8) (s : State) : Host.Outcome State Fault Refusal :=
  serveRow (.one 0xE0#8) (opcode "LOOPNE" [.J .b]) (.plain [.f8 rel]) s

/-- E1: LOOPE Jb (R537). -/
def execLoopeE1 (rel : BitVec 8) (s : State) : Host.Outcome State Fault Refusal :=
  serveRow (.one 0xE1#8) (opcode "LOOPE" [.J .b]) (.plain [.f8 rel]) s

/-- E2: LOOP Jb (R538). -/
def execLoopE2 (rel : BitVec 8) (s : State) : Host.Outcome State Fault Refusal :=
  serveRow (.one 0xE2#8) (opcode "LOOP" [.J .b]) (.plain [.f8 rel]) s

/-- E3: JCXZ Jb (R539). -/
def execJcxzE3 (rel : BitVec 8) (s : State) : Host.Outcome State Fault Refusal :=
  serveRow (.one 0xE3#8) (opcode "JCXZ" [.J .b]) (.plain [.f8 rel]) s

/-- E4: IN AL, Ib (R540). -/
def execInE4 (imm : BitVec 8) (s : State) : Host.Outcome State Fault Refusal :=
  serveRow (.one 0xE4#8) (opcode "IN" [.fixed .al, .I .b]) (.plain [.f8 imm]) s

/-- E5: IN eAX, Ib (R541). -/
def execInE5 (imm : BitVec 8) (s : State) : Host.Outcome State Fault Refusal :=
  serveRow (.one 0xE5#8) (opcode "IN" [.fixed .eAX, .I .b]) (.plain [.f8 imm]) s

/-- E6: OUT Ib, AL (R542). -/
def execOutE6 (imm : BitVec 8) (s : State) : Host.Outcome State Fault Refusal :=
  serveRow (.one 0xE6#8) (opcode "OUT" [.I .b, .fixed .al]) (.plain [.f8 imm]) s

/-- E7: OUT Ib, eAX (R543). -/
def execOutE7 (imm : BitVec 8) (s : State) : Host.Outcome State Fault Refusal :=
  serveRow (.one 0xE7#8) (opcode "OUT" [.I .b, .fixed .eAX]) (.plain [.f8 imm]) s

/-- E8: CALL Jv (R544). -/
def execCallE8 (rel : Field) (s : State) : Host.Outcome State Fault Refusal :=
  serveRow (.one 0xE8#8) (opcode "CALL" [.J .v]) (.plain [rel]) s

/-- E9: JMP Jv (R545). -/
def execJmpE9 (rel : Field) (s : State) : Host.Outcome State Fault Refusal :=
  serveRow (.one 0xE9#8) (opcode "JMP" [.J .v]) (.plain [rel]) s

/-- EA: JMPF Iv, Iw (R546). -/
def execJmpfEA (off : Field) (sel : BitVec 16) (s : State) : Host.Outcome State Fault Refusal :=
  serveRow (.one 0xEA#8) (opcode "JMPF" [.I .v, .I .w]) (.plain [off, .f16 sel]) s

/-- EB: JMP Jb (R547). -/
def execJmpEB (rel : BitVec 8) (s : State) : Host.Outcome State Fault Refusal :=
  serveRow (.one 0xEB#8) (opcode "JMP" [.J .b]) (.plain [.f8 rel]) s

/-- EC: IN AL, DX (R548). -/
def execInEC (s : State) : Host.Outcome State Fault Refusal :=
  serveRow (.one 0xEC#8) (opcode "IN" [.fixed .al, .fixed .dx]) (.plain []) s

/-- ED: IN eAX, DX (R549). -/
def execInED (s : State) : Host.Outcome State Fault Refusal :=
  serveRow (.one 0xED#8) (opcode "IN" [.fixed .eAX, .fixed .dx]) (.plain []) s

/-- EE: OUT DX, AL (R550). -/
def execOutEE (s : State) : Host.Outcome State Fault Refusal :=
  serveRow (.one 0xEE#8) (opcode "OUT" [.fixed .dx, .fixed .al]) (.plain []) s

/-- EF: OUT DX, eAX (R551). -/
def execOutEF (s : State) : Host.Outcome State Fault Refusal :=
  serveRow (.one 0xEF#8) (opcode "OUT" [.fixed .dx, .fixed .eAX]) (.plain []) s

/-- F4: HLT (R552). -/
def execHltF4 (s : State) : Host.Outcome State Fault Refusal :=
  serveRow (.one 0xF4#8) (opcode "HLT" []) (.plain []) s

/-- F5: CMC (R553). -/
def execCmcF5 (s : State) : Host.Outcome State Fault Refusal :=
  serveRow (.one 0xF5#8) (opcode "CMC" []) (.plain []) s

/-- F6 /0: TEST Eb, Ib (R555). -/
def execTestF6s0 (e : Rm) (imm : BitVec 8) (s : State) : Host.Outcome State Fault Refusal :=
  serveRow (.one 0xF6#8) (opcode "TEST" [.E .b, .I .b]) (.block 0#3 e [.f8 imm]) s

/-- F6 /2: NOT Eb (R556). -/
def execNotF6s2 (e : Rm) (s : State) : Host.Outcome State Fault Refusal :=
  serveRow (.one 0xF6#8) (opcode "NOT" [.E .b]) (.block 2#3 e []) s

/-- F6 /3: NEG Eb (R557). -/
def execNegF6s3 (e : Rm) (s : State) : Host.Outcome State Fault Refusal :=
  serveRow (.one 0xF6#8) (opcode "NEG" [.E .b]) (.block 3#3 e []) s

/-- F6 /4: MUL Eb (R558). -/
def execMulF6s4 (e : Rm) (s : State) : Host.Outcome State Fault Refusal :=
  serveRow (.one 0xF6#8) (opcode "MUL" [.E .b]) (.block 4#3 e []) s

/-- F6 /5: IMUL Eb (R559). -/
def execImulF6s5 (e : Rm) (s : State) : Host.Outcome State Fault Refusal :=
  serveRow (.one 0xF6#8) (opcode "IMUL" [.E .b]) (.block 5#3 e []) s

/-- F6 /6: DIV Eb (R560). -/
def execDivF6s6 (e : Rm) (s : State) : Host.Outcome State Fault Refusal :=
  serveRow (.one 0xF6#8) (opcode "DIV" [.E .b]) (.block 6#3 e []) s

/-- F6 /7: IDIV Eb (R561). -/
def execIdivF6s7 (e : Rm) (s : State) : Host.Outcome State Fault Refusal :=
  serveRow (.one 0xF6#8) (opcode "IDIV" [.E .b]) (.block 7#3 e []) s

/-- F7 /0: TEST Ev, Iv (R563). -/
def execTestF7s0 (e : Rm) (imm : Field) (s : State) : Host.Outcome State Fault Refusal :=
  serveRow (.one 0xF7#8) (opcode "TEST" [.E .v, .I .v]) (.block 0#3 e [imm]) s

/-- F7 /2: NOT Ev (R564). -/
def execNotF7s2 (e : Rm) (s : State) : Host.Outcome State Fault Refusal :=
  serveRow (.one 0xF7#8) (opcode "NOT" [.E .v]) (.block 2#3 e []) s

/-- F7 /3: NEG Ev (R565). -/
def execNegF7s3 (e : Rm) (s : State) : Host.Outcome State Fault Refusal :=
  serveRow (.one 0xF7#8) (opcode "NEG" [.E .v]) (.block 3#3 e []) s

/-- F7 /4: MUL Ev (R566). -/
def execMulF7s4 (e : Rm) (s : State) : Host.Outcome State Fault Refusal :=
  serveRow (.one 0xF7#8) (opcode "MUL" [.E .v]) (.block 4#3 e []) s

/-- F7 /5: IMUL Ev (R567). -/
def execImulF7s5 (e : Rm) (s : State) : Host.Outcome State Fault Refusal :=
  serveRow (.one 0xF7#8) (opcode "IMUL" [.E .v]) (.block 5#3 e []) s

/-- F7 /6: DIV Ev (R568). -/
def execDivF7s6 (e : Rm) (s : State) : Host.Outcome State Fault Refusal :=
  serveRow (.one 0xF7#8) (opcode "DIV" [.E .v]) (.block 6#3 e []) s

/-- F7 /7: IDIV Ev (R569). -/
def execIdivF7s7 (e : Rm) (s : State) : Host.Outcome State Fault Refusal :=
  serveRow (.one 0xF7#8) (opcode "IDIV" [.E .v]) (.block 7#3 e []) s

/-- F8: CLC (R570). -/
def execClcF8 (s : State) : Host.Outcome State Fault Refusal :=
  serveRow (.one 0xF8#8) (opcode "CLC" []) (.plain []) s

/-- F9: STC (R571). -/
def execStcF9 (s : State) : Host.Outcome State Fault Refusal :=
  serveRow (.one 0xF9#8) (opcode "STC" []) (.plain []) s

/-- FA: CLI (R572). -/
def execCliFA (s : State) : Host.Outcome State Fault Refusal :=
  serveRow (.one 0xFA#8) (opcode "CLI" []) (.plain []) s

/-- FB: STI (R573). -/
def execStiFB (s : State) : Host.Outcome State Fault Refusal :=
  serveRow (.one 0xFB#8) (opcode "STI" []) (.plain []) s

/-- FC: CLD (R574). -/
def execCldFC (s : State) : Host.Outcome State Fault Refusal :=
  serveRow (.one 0xFC#8) (opcode "CLD" []) (.plain []) s

/-- FD: STD (R575). -/
def execStdFD (s : State) : Host.Outcome State Fault Refusal :=
  serveRow (.one 0xFD#8) (opcode "STD" []) (.plain []) s

/-- FE /0: INC Eb (R577). -/
def execIncFEs0 (e : Rm) (s : State) : Host.Outcome State Fault Refusal :=
  serveRow (.one 0xFE#8) (opcode "INC" [.E .b]) (.block 0#3 e []) s

/-- FE /1: DEC Eb (R578). -/
def execDecFEs1 (e : Rm) (s : State) : Host.Outcome State Fault Refusal :=
  serveRow (.one 0xFE#8) (opcode "DEC" [.E .b]) (.block 1#3 e []) s

/-- FF /0: INC Ev (R580). -/
def execIncFFs0 (e : Rm) (s : State) : Host.Outcome State Fault Refusal :=
  serveRow (.one 0xFF#8) (opcode "INC" [.E .v]) (.block 0#3 e []) s

/-- FF /1: DEC Ev (R581). -/
def execDecFFs1 (e : Rm) (s : State) : Host.Outcome State Fault Refusal :=
  serveRow (.one 0xFF#8) (opcode "DEC" [.E .v]) (.block 1#3 e []) s

/-- FF /2: CALL Ev (R582). -/
def execCallFFs2 (e : Rm) (s : State) : Host.Outcome State Fault Refusal :=
  serveRow (.one 0xFF#8) (opcode "CALL" [.E .v]) (.block 2#3 e []) s

/-- FF /3: CALLF Mp (R583). -/
def execCallfFFs3 (e : Rm) (s : State) : Host.Outcome State Fault Refusal :=
  serveRow (.one 0xFF#8) (opcode "CALLF" [.M (some .p)]) (.block 3#3 e []) s

/-- FF /4: JMP Ev (R584). -/
def execJmpFFs4 (e : Rm) (s : State) : Host.Outcome State Fault Refusal :=
  serveRow (.one 0xFF#8) (opcode "JMP" [.E .v]) (.block 4#3 e []) s

/-- FF /5: JMPF Mp (R585). -/
def execJmpfFFs5 (e : Rm) (s : State) : Host.Outcome State Fault Refusal :=
  serveRow (.one 0xFF#8) (opcode "JMPF" [.M (some .p)]) (.block 5#3 e []) s

/-- FF /6: PUSH Ev (R586). -/
def execPushFFs6 (e : Rm) (s : State) : Host.Outcome State Fault Refusal :=
  serveRow (.one 0xFF#8) (opcode "PUSH" [.E .v]) (.block 6#3 e []) s

end Sys2Proof.Machine
end

