-- ==== Sys2Proof/Machine/Prefixes.lean ====
section
/-!
DEFINITION. The bytes before and beside the opcode rows: the prefixes (40_prefix_scanner.md R142 to R146), the
escape (41_opcode_table.md R161) and the opcodes with no entry (48 R669, 49 R670).
-/

namespace Sys2Proof.Machine

/-- 26: prefix ES: (R142). -/
def execPrefixES (s : State) : Host.Outcome State Fault Refusal :=
  servePrefix (PrefixState.override .es) s

/-- 2E: prefix CS: (R142). -/
def execPrefixCS (s : State) : Host.Outcome State Fault Refusal :=
  servePrefix (PrefixState.override .cs) s

/-- 36: prefix SS: (R142). -/
def execPrefixSS (s : State) : Host.Outcome State Fault Refusal :=
  servePrefix (PrefixState.override .ss) s

/-- 3E: prefix DS: (R142). -/
def execPrefixDS (s : State) : Host.Outcome State Fault Refusal :=
  servePrefix (PrefixState.override .ds) s

/-- 64: prefix FS: (R142). -/
def execPrefixFS (s : State) : Host.Outcome State Fault Refusal :=
  servePrefix (PrefixState.override .fs) s

/-- 65: prefix GS: (R142). -/
def execPrefixGS (s : State) : Host.Outcome State Fault Refusal :=
  servePrefix (PrefixState.override .gs) s

/-- 66: prefix OPSIZE (R143). -/
def execPrefixOPSIZE (s : State) : Host.Outcome State Fault Refusal :=
  servePrefix PrefixState.operandSize s

/-- 67: prefix ADDRSIZE (R144). -/
def execPrefixADDRSIZE (s : State) : Host.Outcome State Fault Refusal :=
  servePrefix PrefixState.addressSize s

/-- F0: prefix LOCK (R145). -/
def execPrefixLOCK (s : State) : Host.Outcome State Fault Refusal :=
  servePrefix PrefixState.setLock s

/-- F2: prefix REPNE (R146). -/
def execPrefixREPNE (s : State) : Host.Outcome State Fault Refusal :=
  servePrefix (PrefixState.setRep .repne) s

/-- F3: prefix REP (R146). -/
def execPrefixREP (s : State) : Host.Outcome State Fault Refusal :=
  servePrefix (PrefixState.setRep .rep) s

/-- 0F: the escape to the two-byte map (R93, R151, R161). -/
def execEscape0F (s : State) : Host.Outcome State Fault Refusal :=
  serveEscape s

/-- unassigned one-byte opcode (R669). -/
def execUnassignedOneByte (b : Byte) (s : State) : Host.Outcome State Fault Refusal :=
  serveUnassigned (.one b) s

/-- unassigned two-byte opcode (R670). -/
def execUnassignedTwoByte (b : Byte) (s : State) : Host.Outcome State Fault Refusal :=
  serveUnassigned (.two b) s

end Sys2Proof.Machine
end

