-- ==== Sys2Proof/Machine/TwoByte.lean ====
section
/-!
DEFINITION. 49_twobyte_0F.md: the rows of the two-byte opcodes 0F 00 to 0F BF. A row is its key,
its descriptor and its encoded fields; what the block does with them is `serveRow`.
-/

namespace Sys2Proof.Machine

/-- 0F 00 /0: SLDT Ew (R588). -/
def execSldt0F00s0 (e : Rm) (s : State) : Host.Outcome State Fault Refusal :=
  serveRow (.two 0x00#8) (opcode "SLDT" [.E .w]) (.block 0#3 e []) s

/-- 0F 00 /1: STR Ew (R589). -/
def execStr0F00s1 (e : Rm) (s : State) : Host.Outcome State Fault Refusal :=
  serveRow (.two 0x00#8) (opcode "STR" [.E .w]) (.block 1#3 e []) s

/-- 0F 00 /2: LLDT Ew (R590). -/
def execLldt0F00s2 (e : Rm) (s : State) : Host.Outcome State Fault Refusal :=
  serveRow (.two 0x00#8) (opcode "LLDT" [.E .w]) (.block 2#3 e []) s

/-- 0F 00 /3: LTR Ew (R591). -/
def execLtr0F00s3 (e : Rm) (s : State) : Host.Outcome State Fault Refusal :=
  serveRow (.two 0x00#8) (opcode "LTR" [.E .w]) (.block 3#3 e []) s

/-- 0F 00 /4: VERR Ew (R592). -/
def execVerr0F00s4 (e : Rm) (s : State) : Host.Outcome State Fault Refusal :=
  serveRow (.two 0x00#8) (opcode "VERR" [.E .w]) (.block 4#3 e []) s

/-- 0F 00 /5: VERW Ew (R593). -/
def execVerw0F00s5 (e : Rm) (s : State) : Host.Outcome State Fault Refusal :=
  serveRow (.two 0x00#8) (opcode "VERW" [.E .w]) (.block 5#3 e []) s

/-- 0F 01 /0: SGDT Ms (R595). -/
def execSgdt0F01s0 (e : Rm) (s : State) : Host.Outcome State Fault Refusal :=
  serveRow (.two 0x01#8) (opcode "SGDT" [.M (some .s)]) (.block 0#3 e []) s

/-- 0F 01 /1: SIDT Ms (R596). -/
def execSidt0F01s1 (e : Rm) (s : State) : Host.Outcome State Fault Refusal :=
  serveRow (.two 0x01#8) (opcode "SIDT" [.M (some .s)]) (.block 1#3 e []) s

/-- 0F 01 /2: LGDT Ms (R597). -/
def execLgdt0F01s2 (e : Rm) (s : State) : Host.Outcome State Fault Refusal :=
  serveRow (.two 0x01#8) (opcode "LGDT" [.M (some .s)]) (.block 2#3 e []) s

/-- 0F 01 /3: LIDT Ms (R598). -/
def execLidt0F01s3 (e : Rm) (s : State) : Host.Outcome State Fault Refusal :=
  serveRow (.two 0x01#8) (opcode "LIDT" [.M (some .s)]) (.block 3#3 e []) s

/-- 0F 01 /4: SMSW Ew (R599). -/
def execSmsw0F01s4 (e : Rm) (s : State) : Host.Outcome State Fault Refusal :=
  serveRow (.two 0x01#8) (opcode "SMSW" [.E .w]) (.block 4#3 e []) s

/-- 0F 01 /6: LMSW Ew (R600). -/
def execLmsw0F01s6 (e : Rm) (s : State) : Host.Outcome State Fault Refusal :=
  serveRow (.two 0x01#8) (opcode "LMSW" [.E .w]) (.block 6#3 e []) s

/-- 0F 02: LAR Gv, Ew (R601). -/
def execLar0F02 (reg : BitVec 3) (e : Rm) (s : State) : Host.Outcome State Fault Refusal :=
  serveRow (.two 0x02#8) (opcode "LAR" [.G .v, .E .w]) (.block reg e []) s

/-- 0F 03: LSL Gv, Ew (R602). -/
def execLsl0F03 (reg : BitVec 3) (e : Rm) (s : State) : Host.Outcome State Fault Refusal :=
  serveRow (.two 0x03#8) (opcode "LSL" [.G .v, .E .w]) (.block reg e []) s

/-- 0F 06: CLTS (R603). -/
def execClts0F06 (s : State) : Host.Outcome State Fault Refusal :=
  serveRow (.two 0x06#8) (opcode "CLTS" []) (.plain []) s

/-- 0F 20: MOV Rd, Cd (R604). -/
def execMov0F20 (mod : BitVec 2) (reg : BitVec 3) (rm : BitVec 3) (s : State) : Host.Outcome State Fault Refusal :=
  serveRow (.two 0x20#8) (opcode "MOV" [.R .d, .C .d]) (.lone mod reg rm) s

/-- 0F 21: MOV Rd, Dd (R605). -/
def execMov0F21 (mod : BitVec 2) (reg : BitVec 3) (rm : BitVec 3) (s : State) : Host.Outcome State Fault Refusal :=
  serveRow (.two 0x21#8) (opcode "MOV" [.R .d, .D .d]) (.lone mod reg rm) s

/-- 0F 22: MOV Cd, Rd (R606). -/
def execMov0F22 (mod : BitVec 2) (reg : BitVec 3) (rm : BitVec 3) (s : State) : Host.Outcome State Fault Refusal :=
  serveRow (.two 0x22#8) (opcode "MOV" [.C .d, .R .d]) (.lone mod reg rm) s

/-- 0F 23: MOV Dd, Rd (R607). -/
def execMov0F23 (mod : BitVec 2) (reg : BitVec 3) (rm : BitVec 3) (s : State) : Host.Outcome State Fault Refusal :=
  serveRow (.two 0x23#8) (opcode "MOV" [.D .d, .R .d]) (.lone mod reg rm) s

/-- 0F 24: MOV Rd, Td (R608). -/
def execMov0F24 (mod : BitVec 2) (reg : BitVec 3) (rm : BitVec 3) (s : State) : Host.Outcome State Fault Refusal :=
  serveRow (.two 0x24#8) (opcode "MOV" [.R .d, .T .d]) (.lone mod reg rm) s

/-- 0F 26: MOV Td, Rd (R609). -/
def execMov0F26 (mod : BitVec 2) (reg : BitVec 3) (rm : BitVec 3) (s : State) : Host.Outcome State Fault Refusal :=
  serveRow (.two 0x26#8) (opcode "MOV" [.T .d, .R .d]) (.lone mod reg rm) s

/-- 0F 80: JO Jv (R610). -/
def execJo0F80 (rel : Field) (s : State) : Host.Outcome State Fault Refusal :=
  serveRow (.two 0x80#8) (opcode "JO" [.J .v]) (.plain [rel]) s

/-- 0F 81: JNO Jv (R611). -/
def execJno0F81 (rel : Field) (s : State) : Host.Outcome State Fault Refusal :=
  serveRow (.two 0x81#8) (opcode "JNO" [.J .v]) (.plain [rel]) s

/-- 0F 82: JB Jv (R612). -/
def execJb0F82 (rel : Field) (s : State) : Host.Outcome State Fault Refusal :=
  serveRow (.two 0x82#8) (opcode "JB" [.J .v]) (.plain [rel]) s

/-- 0F 83: JNB Jv (R613). -/
def execJnb0F83 (rel : Field) (s : State) : Host.Outcome State Fault Refusal :=
  serveRow (.two 0x83#8) (opcode "JNB" [.J .v]) (.plain [rel]) s

/-- 0F 84: JZ Jv (R614). -/
def execJz0F84 (rel : Field) (s : State) : Host.Outcome State Fault Refusal :=
  serveRow (.two 0x84#8) (opcode "JZ" [.J .v]) (.plain [rel]) s

/-- 0F 85: JNZ Jv (R615). -/
def execJnz0F85 (rel : Field) (s : State) : Host.Outcome State Fault Refusal :=
  serveRow (.two 0x85#8) (opcode "JNZ" [.J .v]) (.plain [rel]) s

/-- 0F 86: JBE Jv (R616). -/
def execJbe0F86 (rel : Field) (s : State) : Host.Outcome State Fault Refusal :=
  serveRow (.two 0x86#8) (opcode "JBE" [.J .v]) (.plain [rel]) s

/-- 0F 87: JNBE Jv (R617). -/
def execJnbe0F87 (rel : Field) (s : State) : Host.Outcome State Fault Refusal :=
  serveRow (.two 0x87#8) (opcode "JNBE" [.J .v]) (.plain [rel]) s

/-- 0F 88: JS Jv (R618). -/
def execJs0F88 (rel : Field) (s : State) : Host.Outcome State Fault Refusal :=
  serveRow (.two 0x88#8) (opcode "JS" [.J .v]) (.plain [rel]) s

/-- 0F 89: JNS Jv (R619). -/
def execJns0F89 (rel : Field) (s : State) : Host.Outcome State Fault Refusal :=
  serveRow (.two 0x89#8) (opcode "JNS" [.J .v]) (.plain [rel]) s

/-- 0F 8A: JP Jv (R620). -/
def execJp0F8A (rel : Field) (s : State) : Host.Outcome State Fault Refusal :=
  serveRow (.two 0x8A#8) (opcode "JP" [.J .v]) (.plain [rel]) s

/-- 0F 8B: JNP Jv (R621). -/
def execJnp0F8B (rel : Field) (s : State) : Host.Outcome State Fault Refusal :=
  serveRow (.two 0x8B#8) (opcode "JNP" [.J .v]) (.plain [rel]) s

/-- 0F 8C: JL Jv (R622). -/
def execJl0F8C (rel : Field) (s : State) : Host.Outcome State Fault Refusal :=
  serveRow (.two 0x8C#8) (opcode "JL" [.J .v]) (.plain [rel]) s

/-- 0F 8D: JNL Jv (R623). -/
def execJnl0F8D (rel : Field) (s : State) : Host.Outcome State Fault Refusal :=
  serveRow (.two 0x8D#8) (opcode "JNL" [.J .v]) (.plain [rel]) s

/-- 0F 8E: JLE Jv (R624). -/
def execJle0F8E (rel : Field) (s : State) : Host.Outcome State Fault Refusal :=
  serveRow (.two 0x8E#8) (opcode "JLE" [.J .v]) (.plain [rel]) s

/-- 0F 8F: JNLE Jv (R625). -/
def execJnle0F8F (rel : Field) (s : State) : Host.Outcome State Fault Refusal :=
  serveRow (.two 0x8F#8) (opcode "JNLE" [.J .v]) (.plain [rel]) s

/-- 0F 90: SETO Eb (R626). -/
def execSeto0F90 (reg : BitVec 3) (e : Rm) (s : State) : Host.Outcome State Fault Refusal :=
  serveRow (.two 0x90#8) (opcode "SETO" [.E .b]) (.block reg e []) s

/-- 0F 91: SETNO Eb (R627). -/
def execSetno0F91 (reg : BitVec 3) (e : Rm) (s : State) : Host.Outcome State Fault Refusal :=
  serveRow (.two 0x91#8) (opcode "SETNO" [.E .b]) (.block reg e []) s

/-- 0F 92: SETB Eb (R628). -/
def execSetb0F92 (reg : BitVec 3) (e : Rm) (s : State) : Host.Outcome State Fault Refusal :=
  serveRow (.two 0x92#8) (opcode "SETB" [.E .b]) (.block reg e []) s

/-- 0F 93: SETNB Eb (R629). -/
def execSetnb0F93 (reg : BitVec 3) (e : Rm) (s : State) : Host.Outcome State Fault Refusal :=
  serveRow (.two 0x93#8) (opcode "SETNB" [.E .b]) (.block reg e []) s

/-- 0F 94: SETZ Eb (R630). -/
def execSetz0F94 (reg : BitVec 3) (e : Rm) (s : State) : Host.Outcome State Fault Refusal :=
  serveRow (.two 0x94#8) (opcode "SETZ" [.E .b]) (.block reg e []) s

/-- 0F 95: SETNZ Eb (R631). -/
def execSetnz0F95 (reg : BitVec 3) (e : Rm) (s : State) : Host.Outcome State Fault Refusal :=
  serveRow (.two 0x95#8) (opcode "SETNZ" [.E .b]) (.block reg e []) s

/-- 0F 96: SETBE Eb (R632). -/
def execSetbe0F96 (reg : BitVec 3) (e : Rm) (s : State) : Host.Outcome State Fault Refusal :=
  serveRow (.two 0x96#8) (opcode "SETBE" [.E .b]) (.block reg e []) s

/-- 0F 97: SETNBE Eb (R633). -/
def execSetnbe0F97 (reg : BitVec 3) (e : Rm) (s : State) : Host.Outcome State Fault Refusal :=
  serveRow (.two 0x97#8) (opcode "SETNBE" [.E .b]) (.block reg e []) s

/-- 0F 98: SETS Eb (R634). -/
def execSets0F98 (reg : BitVec 3) (e : Rm) (s : State) : Host.Outcome State Fault Refusal :=
  serveRow (.two 0x98#8) (opcode "SETS" [.E .b]) (.block reg e []) s

/-- 0F 99: SETNS Eb (R635). -/
def execSetns0F99 (reg : BitVec 3) (e : Rm) (s : State) : Host.Outcome State Fault Refusal :=
  serveRow (.two 0x99#8) (opcode "SETNS" [.E .b]) (.block reg e []) s

/-- 0F 9A: SETP Eb (R636). -/
def execSetp0F9A (reg : BitVec 3) (e : Rm) (s : State) : Host.Outcome State Fault Refusal :=
  serveRow (.two 0x9A#8) (opcode "SETP" [.E .b]) (.block reg e []) s

/-- 0F 9B: SETNP Eb (R637). -/
def execSetnp0F9B (reg : BitVec 3) (e : Rm) (s : State) : Host.Outcome State Fault Refusal :=
  serveRow (.two 0x9B#8) (opcode "SETNP" [.E .b]) (.block reg e []) s

/-- 0F 9C: SETL Eb (R638). -/
def execSetl0F9C (reg : BitVec 3) (e : Rm) (s : State) : Host.Outcome State Fault Refusal :=
  serveRow (.two 0x9C#8) (opcode "SETL" [.E .b]) (.block reg e []) s

/-- 0F 9D: SETNL Eb (R639). -/
def execSetnl0F9D (reg : BitVec 3) (e : Rm) (s : State) : Host.Outcome State Fault Refusal :=
  serveRow (.two 0x9D#8) (opcode "SETNL" [.E .b]) (.block reg e []) s

/-- 0F 9E: SETLE Eb (R640). -/
def execSetle0F9E (reg : BitVec 3) (e : Rm) (s : State) : Host.Outcome State Fault Refusal :=
  serveRow (.two 0x9E#8) (opcode "SETLE" [.E .b]) (.block reg e []) s

/-- 0F 9F: SETNLE Eb (R641). -/
def execSetnle0F9F (reg : BitVec 3) (e : Rm) (s : State) : Host.Outcome State Fault Refusal :=
  serveRow (.two 0x9F#8) (opcode "SETNLE" [.E .b]) (.block reg e []) s

/-- 0F A0: PUSH FS (R642). -/
def execPush0FA0 (s : State) : Host.Outcome State Fault Refusal :=
  serveRow (.two 0xA0#8) (opcode "PUSH" [.fixed (.seg .fs)]) (.plain []) s

/-- 0F A1: POP FS (R643). -/
def execPop0FA1 (s : State) : Host.Outcome State Fault Refusal :=
  serveRow (.two 0xA1#8) (opcode "POP" [.fixed (.seg .fs)]) (.plain []) s

/-- 0F A3: BT Ev, Gv (R644). -/
def execBt0FA3 (reg : BitVec 3) (e : Rm) (s : State) : Host.Outcome State Fault Refusal :=
  serveRow (.two 0xA3#8) (opcode "BT" [.E .v, .G .v]) (.block reg e []) s

/-- 0F A4: SHLD Ev, Gv, Ib (R645). -/
def execShld0FA4 (reg : BitVec 3) (e : Rm) (imm : BitVec 8) (s : State) : Host.Outcome State Fault Refusal :=
  serveRow (.two 0xA4#8) (opcode "SHLD" [.E .v, .G .v, .I .b]) (.block reg e [.f8 imm]) s

/-- 0F A5: SHLD Ev, Gv, CL (R646). -/
def execShld0FA5 (reg : BitVec 3) (e : Rm) (s : State) : Host.Outcome State Fault Refusal :=
  serveRow (.two 0xA5#8) (opcode "SHLD" [.E .v, .G .v, .fixed .cl]) (.block reg e []) s

/-- 0F A8: PUSH GS (R647). -/
def execPush0FA8 (s : State) : Host.Outcome State Fault Refusal :=
  serveRow (.two 0xA8#8) (opcode "PUSH" [.fixed (.seg .gs)]) (.plain []) s

/-- 0F A9: POP GS (R648). -/
def execPop0FA9 (s : State) : Host.Outcome State Fault Refusal :=
  serveRow (.two 0xA9#8) (opcode "POP" [.fixed (.seg .gs)]) (.plain []) s

/-- 0F AB: BTS Ev, Gv (R649). -/
def execBts0FAB (reg : BitVec 3) (e : Rm) (s : State) : Host.Outcome State Fault Refusal :=
  serveRow (.two 0xAB#8) (opcode "BTS" [.E .v, .G .v]) (.block reg e []) s

/-- 0F AC: SHRD Ev, Gv, Ib (R650). -/
def execShrd0FAC (reg : BitVec 3) (e : Rm) (imm : BitVec 8) (s : State) : Host.Outcome State Fault Refusal :=
  serveRow (.two 0xAC#8) (opcode "SHRD" [.E .v, .G .v, .I .b]) (.block reg e [.f8 imm]) s

/-- 0F AD: SHRD Ev, Gv, CL (R651). -/
def execShrd0FAD (reg : BitVec 3) (e : Rm) (s : State) : Host.Outcome State Fault Refusal :=
  serveRow (.two 0xAD#8) (opcode "SHRD" [.E .v, .G .v, .fixed .cl]) (.block reg e []) s

/-- 0F AF: IMUL Gv, Ev (R652). -/
def execImul0FAF (reg : BitVec 3) (e : Rm) (s : State) : Host.Outcome State Fault Refusal :=
  serveRow (.two 0xAF#8) (opcode "IMUL" [.G .v, .E .v]) (.block reg e []) s

/-- 0F B2: LSS Gv, Mp (R653). -/
def execLss0FB2 (reg : BitVec 3) (e : Rm) (s : State) : Host.Outcome State Fault Refusal :=
  serveRow (.two 0xB2#8) (opcode "LSS" [.G .v, .M (some .p)]) (.block reg e []) s

/-- 0F B3: BTR Ev, Gv (R654). -/
def execBtr0FB3 (reg : BitVec 3) (e : Rm) (s : State) : Host.Outcome State Fault Refusal :=
  serveRow (.two 0xB3#8) (opcode "BTR" [.E .v, .G .v]) (.block reg e []) s

/-- 0F B4: LFS Gv, Mp (R655). -/
def execLfs0FB4 (reg : BitVec 3) (e : Rm) (s : State) : Host.Outcome State Fault Refusal :=
  serveRow (.two 0xB4#8) (opcode "LFS" [.G .v, .M (some .p)]) (.block reg e []) s

/-- 0F B5: LGS Gv, Mp (R656). -/
def execLgs0FB5 (reg : BitVec 3) (e : Rm) (s : State) : Host.Outcome State Fault Refusal :=
  serveRow (.two 0xB5#8) (opcode "LGS" [.G .v, .M (some .p)]) (.block reg e []) s

/-- 0F B6: MOVZX Gv, Eb (R657). -/
def execMovzx0FB6 (reg : BitVec 3) (e : Rm) (s : State) : Host.Outcome State Fault Refusal :=
  serveRow (.two 0xB6#8) (opcode "MOVZX" [.G .v, .E .b]) (.block reg e []) s

/-- 0F B7: MOVZX Gv, Ew (R658). -/
def execMovzx0FB7 (reg : BitVec 3) (e : Rm) (s : State) : Host.Outcome State Fault Refusal :=
  serveRow (.two 0xB7#8) (opcode "MOVZX" [.G .v, .E .w]) (.block reg e []) s

/-- 0F BA /4: BT Ev, Ib (R660). -/
def execBt0FBAs4 (e : Rm) (imm : BitVec 8) (s : State) : Host.Outcome State Fault Refusal :=
  serveRow (.two 0xBA#8) (opcode "BT" [.E .v, .I .b]) (.block 4#3 e [.f8 imm]) s

/-- 0F BA /5: BTS Ev, Ib (R661). -/
def execBts0FBAs5 (e : Rm) (imm : BitVec 8) (s : State) : Host.Outcome State Fault Refusal :=
  serveRow (.two 0xBA#8) (opcode "BTS" [.E .v, .I .b]) (.block 5#3 e [.f8 imm]) s

/-- 0F BA /6: BTR Ev, Ib (R662). -/
def execBtr0FBAs6 (e : Rm) (imm : BitVec 8) (s : State) : Host.Outcome State Fault Refusal :=
  serveRow (.two 0xBA#8) (opcode "BTR" [.E .v, .I .b]) (.block 6#3 e [.f8 imm]) s

/-- 0F BA /7: BTC Ev, Ib (R663). -/
def execBtc0FBAs7 (e : Rm) (imm : BitVec 8) (s : State) : Host.Outcome State Fault Refusal :=
  serveRow (.two 0xBA#8) (opcode "BTC" [.E .v, .I .b]) (.block 7#3 e [.f8 imm]) s

/-- 0F BB: BTC Ev, Gv (R664). -/
def execBtc0FBB (reg : BitVec 3) (e : Rm) (s : State) : Host.Outcome State Fault Refusal :=
  serveRow (.two 0xBB#8) (opcode "BTC" [.E .v, .G .v]) (.block reg e []) s

/-- 0F BC: BSF Gv, Ev (R665). -/
def execBsf0FBC (reg : BitVec 3) (e : Rm) (s : State) : Host.Outcome State Fault Refusal :=
  serveRow (.two 0xBC#8) (opcode "BSF" [.G .v, .E .v]) (.block reg e []) s

/-- 0F BD: BSR Gv, Ev (R666). -/
def execBsr0FBD (reg : BitVec 3) (e : Rm) (s : State) : Host.Outcome State Fault Refusal :=
  serveRow (.two 0xBD#8) (opcode "BSR" [.G .v, .E .v]) (.block reg e []) s

/-- 0F BE: MOVSX Gv, Eb (R667). -/
def execMovsx0FBE (reg : BitVec 3) (e : Rm) (s : State) : Host.Outcome State Fault Refusal :=
  serveRow (.two 0xBE#8) (opcode "MOVSX" [.G .v, .E .b]) (.block reg e []) s

/-- 0F BF: MOVSX Gv, Ew (R668). -/
def execMovsx0FBF (reg : BitVec 3) (e : Rm) (s : State) : Host.Outcome State Fault Refusal :=
  serveRow (.two 0xBF#8) (opcode "MOVSX" [.G .v, .E .w]) (.block reg e []) s

end Sys2Proof.Machine
end

