-- ==== Sys2Proof/Machine/Dispatch.lean ====
section
/-! DEFINITION. One arm per constructor of Instr: which meaning each row of the opcode table has. -/

namespace Sys2Proof.Machine

def exec (i : Instr) (s : State) : Host.Outcome State Fault Refusal :=
  match i with
  | .prefixES => Sys2Proof.Machine.execPrefixES s
  | .prefixCS => Sys2Proof.Machine.execPrefixCS s
  | .prefixSS => Sys2Proof.Machine.execPrefixSS s
  | .prefixDS => Sys2Proof.Machine.execPrefixDS s
  | .prefixFS => Sys2Proof.Machine.execPrefixFS s
  | .prefixGS => Sys2Proof.Machine.execPrefixGS s
  | .prefixOPSIZE => Sys2Proof.Machine.execPrefixOPSIZE s
  | .prefixADDRSIZE => Sys2Proof.Machine.execPrefixADDRSIZE s
  | .prefixLOCK => Sys2Proof.Machine.execPrefixLOCK s
  | .prefixREPNE => Sys2Proof.Machine.execPrefixREPNE s
  | .prefixREP => Sys2Proof.Machine.execPrefixREP s
  | .escape0F => Sys2Proof.Machine.execEscape0F s
  | .add_00 reg e => Sys2Proof.Machine.execAdd00 reg e s
  | .add_01 reg e => Sys2Proof.Machine.execAdd01 reg e s
  | .add_02 reg e => Sys2Proof.Machine.execAdd02 reg e s
  | .add_03 reg e => Sys2Proof.Machine.execAdd03 reg e s
  | .add_04 imm => Sys2Proof.Machine.execAdd04 imm s
  | .add_05 imm => Sys2Proof.Machine.execAdd05 imm s
  | .push_06 => Sys2Proof.Machine.execPush06 s
  | .pop_07 => Sys2Proof.Machine.execPop07 s
  | .or_08 reg e => Sys2Proof.Machine.execOr08 reg e s
  | .or_09 reg e => Sys2Proof.Machine.execOr09 reg e s
  | .or_0A reg e => Sys2Proof.Machine.execOr0A reg e s
  | .or_0B reg e => Sys2Proof.Machine.execOr0B reg e s
  | .or_0C imm => Sys2Proof.Machine.execOr0C imm s
  | .or_0D imm => Sys2Proof.Machine.execOr0D imm s
  | .push_0E => Sys2Proof.Machine.execPush0E s
  | .adc_10 reg e => Sys2Proof.Machine.execAdc10 reg e s
  | .adc_11 reg e => Sys2Proof.Machine.execAdc11 reg e s
  | .adc_12 reg e => Sys2Proof.Machine.execAdc12 reg e s
  | .adc_13 reg e => Sys2Proof.Machine.execAdc13 reg e s
  | .adc_14 imm => Sys2Proof.Machine.execAdc14 imm s
  | .adc_15 imm => Sys2Proof.Machine.execAdc15 imm s
  | .push_16 => Sys2Proof.Machine.execPush16 s
  | .pop_17 => Sys2Proof.Machine.execPop17 s
  | .sbb_18 reg e => Sys2Proof.Machine.execSbb18 reg e s
  | .sbb_19 reg e => Sys2Proof.Machine.execSbb19 reg e s
  | .sbb_1A reg e => Sys2Proof.Machine.execSbb1A reg e s
  | .sbb_1B reg e => Sys2Proof.Machine.execSbb1B reg e s
  | .sbb_1C imm => Sys2Proof.Machine.execSbb1C imm s
  | .sbb_1D imm => Sys2Proof.Machine.execSbb1D imm s
  | .push_1E => Sys2Proof.Machine.execPush1E s
  | .pop_1F => Sys2Proof.Machine.execPop1F s
  | .and_20 reg e => Sys2Proof.Machine.execAnd20 reg e s
  | .and_21 reg e => Sys2Proof.Machine.execAnd21 reg e s
  | .and_22 reg e => Sys2Proof.Machine.execAnd22 reg e s
  | .and_23 reg e => Sys2Proof.Machine.execAnd23 reg e s
  | .and_24 imm => Sys2Proof.Machine.execAnd24 imm s
  | .and_25 imm => Sys2Proof.Machine.execAnd25 imm s
  | .daa_27 => Sys2Proof.Machine.execDaa27 s
  | .sub_28 reg e => Sys2Proof.Machine.execSub28 reg e s
  | .sub_29 reg e => Sys2Proof.Machine.execSub29 reg e s
  | .sub_2A reg e => Sys2Proof.Machine.execSub2A reg e s
  | .sub_2B reg e => Sys2Proof.Machine.execSub2B reg e s
  | .sub_2C imm => Sys2Proof.Machine.execSub2C imm s
  | .sub_2D imm => Sys2Proof.Machine.execSub2D imm s
  | .das_2F => Sys2Proof.Machine.execDas2F s
  | .xor_30 reg e => Sys2Proof.Machine.execXor30 reg e s
  | .xor_31 reg e => Sys2Proof.Machine.execXor31 reg e s
  | .xor_32 reg e => Sys2Proof.Machine.execXor32 reg e s
  | .xor_33 reg e => Sys2Proof.Machine.execXor33 reg e s
  | .xor_34 imm => Sys2Proof.Machine.execXor34 imm s
  | .xor_35 imm => Sys2Proof.Machine.execXor35 imm s
  | .aaa_37 => Sys2Proof.Machine.execAaa37 s
  | .cmp_38 reg e => Sys2Proof.Machine.execCmp38 reg e s
  | .cmp_39 reg e => Sys2Proof.Machine.execCmp39 reg e s
  | .cmp_3A reg e => Sys2Proof.Machine.execCmp3A reg e s
  | .cmp_3B reg e => Sys2Proof.Machine.execCmp3B reg e s
  | .cmp_3C imm => Sys2Proof.Machine.execCmp3C imm s
  | .cmp_3D imm => Sys2Proof.Machine.execCmp3D imm s
  | .aas_3F => Sys2Proof.Machine.execAas3F s
  | .inc_40 r => Sys2Proof.Machine.execInc40 r s
  | .dec_48 r => Sys2Proof.Machine.execDec48 r s
  | .push_50 r => Sys2Proof.Machine.execPush50 r s
  | .pop_58 r => Sys2Proof.Machine.execPop58 r s
  | .pusha_60 => Sys2Proof.Machine.execPusha60 s
  | .popa_61 => Sys2Proof.Machine.execPopa61 s
  | .bound_62 reg e => Sys2Proof.Machine.execBound62 reg e s
  | .arpl_63 reg e => Sys2Proof.Machine.execArpl63 reg e s
  | .push_68 imm => Sys2Proof.Machine.execPush68 imm s
  | .imul_69 reg e imm => Sys2Proof.Machine.execImul69 reg e imm s
  | .push_6A imm => Sys2Proof.Machine.execPush6A imm s
  | .imul_6B reg e imm => Sys2Proof.Machine.execImul6B reg e imm s
  | .insb_6C => Sys2Proof.Machine.execInsb6C s
  | .insw_6D => Sys2Proof.Machine.execInsw6D s
  | .outsb_6E => Sys2Proof.Machine.execOutsb6E s
  | .outsw_6F => Sys2Proof.Machine.execOutsw6F s
  | .jo_70 rel => Sys2Proof.Machine.execJo70 rel s
  | .jno_71 rel => Sys2Proof.Machine.execJno71 rel s
  | .jb_72 rel => Sys2Proof.Machine.execJb72 rel s
  | .jnb_73 rel => Sys2Proof.Machine.execJnb73 rel s
  | .jz_74 rel => Sys2Proof.Machine.execJz74 rel s
  | .jnz_75 rel => Sys2Proof.Machine.execJnz75 rel s
  | .jbe_76 rel => Sys2Proof.Machine.execJbe76 rel s
  | .jnbe_77 rel => Sys2Proof.Machine.execJnbe77 rel s
  | .js_78 rel => Sys2Proof.Machine.execJs78 rel s
  | .jns_79 rel => Sys2Proof.Machine.execJns79 rel s
  | .jp_7A rel => Sys2Proof.Machine.execJp7A rel s
  | .jnp_7B rel => Sys2Proof.Machine.execJnp7B rel s
  | .jl_7C rel => Sys2Proof.Machine.execJl7C rel s
  | .jnl_7D rel => Sys2Proof.Machine.execJnl7D rel s
  | .jle_7E rel => Sys2Proof.Machine.execJle7E rel s
  | .jnle_7F rel => Sys2Proof.Machine.execJnle7F rel s
  | .add_80_0 e imm => Sys2Proof.Machine.execAdd80s0 e imm s
  | .or_80_1 e imm => Sys2Proof.Machine.execOr80s1 e imm s
  | .adc_80_2 e imm => Sys2Proof.Machine.execAdc80s2 e imm s
  | .sbb_80_3 e imm => Sys2Proof.Machine.execSbb80s3 e imm s
  | .and_80_4 e imm => Sys2Proof.Machine.execAnd80s4 e imm s
  | .sub_80_5 e imm => Sys2Proof.Machine.execSub80s5 e imm s
  | .xor_80_6 e imm => Sys2Proof.Machine.execXor80s6 e imm s
  | .cmp_80_7 e imm => Sys2Proof.Machine.execCmp80s7 e imm s
  | .add_81_0 e imm => Sys2Proof.Machine.execAdd81s0 e imm s
  | .or_81_1 e imm => Sys2Proof.Machine.execOr81s1 e imm s
  | .adc_81_2 e imm => Sys2Proof.Machine.execAdc81s2 e imm s
  | .sbb_81_3 e imm => Sys2Proof.Machine.execSbb81s3 e imm s
  | .and_81_4 e imm => Sys2Proof.Machine.execAnd81s4 e imm s
  | .sub_81_5 e imm => Sys2Proof.Machine.execSub81s5 e imm s
  | .xor_81_6 e imm => Sys2Proof.Machine.execXor81s6 e imm s
  | .cmp_81_7 e imm => Sys2Proof.Machine.execCmp81s7 e imm s
  | .add_82_0 e imm => Sys2Proof.Machine.execAdd82s0 e imm s
  | .or_82_1 e imm => Sys2Proof.Machine.execOr82s1 e imm s
  | .adc_82_2 e imm => Sys2Proof.Machine.execAdc82s2 e imm s
  | .sbb_82_3 e imm => Sys2Proof.Machine.execSbb82s3 e imm s
  | .and_82_4 e imm => Sys2Proof.Machine.execAnd82s4 e imm s
  | .sub_82_5 e imm => Sys2Proof.Machine.execSub82s5 e imm s
  | .xor_82_6 e imm => Sys2Proof.Machine.execXor82s6 e imm s
  | .cmp_82_7 e imm => Sys2Proof.Machine.execCmp82s7 e imm s
  | .add_83_0 e imm => Sys2Proof.Machine.execAdd83s0 e imm s
  | .or_83_1 e imm => Sys2Proof.Machine.execOr83s1 e imm s
  | .adc_83_2 e imm => Sys2Proof.Machine.execAdc83s2 e imm s
  | .sbb_83_3 e imm => Sys2Proof.Machine.execSbb83s3 e imm s
  | .and_83_4 e imm => Sys2Proof.Machine.execAnd83s4 e imm s
  | .sub_83_5 e imm => Sys2Proof.Machine.execSub83s5 e imm s
  | .xor_83_6 e imm => Sys2Proof.Machine.execXor83s6 e imm s
  | .cmp_83_7 e imm => Sys2Proof.Machine.execCmp83s7 e imm s
  | .test_84 reg e => Sys2Proof.Machine.execTest84 reg e s
  | .test_85 reg e => Sys2Proof.Machine.execTest85 reg e s
  | .xchg_86 reg e => Sys2Proof.Machine.execXchg86 reg e s
  | .xchg_87 reg e => Sys2Proof.Machine.execXchg87 reg e s
  | .mov_88 reg e => Sys2Proof.Machine.execMov88 reg e s
  | .mov_89 reg e => Sys2Proof.Machine.execMov89 reg e s
  | .mov_8A reg e => Sys2Proof.Machine.execMov8A reg e s
  | .mov_8B reg e => Sys2Proof.Machine.execMov8B reg e s
  | .mov_8C reg e => Sys2Proof.Machine.execMov8C reg e s
  | .lea_8D reg e => Sys2Proof.Machine.execLea8D reg e s
  | .mov_8E reg e => Sys2Proof.Machine.execMov8E reg e s
  | .pop_8F_0 e => Sys2Proof.Machine.execPop8Fs0 e s
  | .nop_90 => Sys2Proof.Machine.execNop90 s
  | .xchg_91 => Sys2Proof.Machine.execXchg91 s
  | .xchg_92 => Sys2Proof.Machine.execXchg92 s
  | .xchg_93 => Sys2Proof.Machine.execXchg93 s
  | .xchg_94 => Sys2Proof.Machine.execXchg94 s
  | .xchg_95 => Sys2Proof.Machine.execXchg95 s
  | .xchg_96 => Sys2Proof.Machine.execXchg96 s
  | .xchg_97 => Sys2Proof.Machine.execXchg97 s
  | .cbw_98 => Sys2Proof.Machine.execCbw98 s
  | .cwd_99 => Sys2Proof.Machine.execCwd99 s
  | .callf_9A off sel => Sys2Proof.Machine.execCallf9A off sel s
  | .wait_9B => Sys2Proof.Machine.execWait9B s
  | .pushf_9C => Sys2Proof.Machine.execPushf9C s
  | .popf_9D => Sys2Proof.Machine.execPopf9D s
  | .sahf_9E => Sys2Proof.Machine.execSahf9E s
  | .lahf_9F => Sys2Proof.Machine.execLahf9F s
  | .mov_A0 off => Sys2Proof.Machine.execMovA0 off s
  | .mov_A1 off => Sys2Proof.Machine.execMovA1 off s
  | .mov_A2 off => Sys2Proof.Machine.execMovA2 off s
  | .mov_A3 off => Sys2Proof.Machine.execMovA3 off s
  | .movsb_A4 => Sys2Proof.Machine.execMovsbA4 s
  | .movsw_A5 => Sys2Proof.Machine.execMovswA5 s
  | .cmpsb_A6 => Sys2Proof.Machine.execCmpsbA6 s
  | .cmpsw_A7 => Sys2Proof.Machine.execCmpswA7 s
  | .test_A8 imm => Sys2Proof.Machine.execTestA8 imm s
  | .test_A9 imm => Sys2Proof.Machine.execTestA9 imm s
  | .stosb_AA => Sys2Proof.Machine.execStosbAA s
  | .stosw_AB => Sys2Proof.Machine.execStoswAB s
  | .lodsb_AC => Sys2Proof.Machine.execLodsbAC s
  | .lodsw_AD => Sys2Proof.Machine.execLodswAD s
  | .scasb_AE => Sys2Proof.Machine.execScasbAE s
  | .scasw_AF => Sys2Proof.Machine.execScaswAF s
  | .mov_B0 r imm => Sys2Proof.Machine.execMovB0 r imm s
  | .mov_B8 r imm => Sys2Proof.Machine.execMovB8 r imm s
  | .rol_C0_0 e imm => Sys2Proof.Machine.execRolC0s0 e imm s
  | .ror_C0_1 e imm => Sys2Proof.Machine.execRorC0s1 e imm s
  | .rcl_C0_2 e imm => Sys2Proof.Machine.execRclC0s2 e imm s
  | .rcr_C0_3 e imm => Sys2Proof.Machine.execRcrC0s3 e imm s
  | .shl_C0_4 e imm => Sys2Proof.Machine.execShlC0s4 e imm s
  | .shr_C0_5 e imm => Sys2Proof.Machine.execShrC0s5 e imm s
  | .sar_C0_7 e imm => Sys2Proof.Machine.execSarC0s7 e imm s
  | .rol_C1_0 e imm => Sys2Proof.Machine.execRolC1s0 e imm s
  | .ror_C1_1 e imm => Sys2Proof.Machine.execRorC1s1 e imm s
  | .rcl_C1_2 e imm => Sys2Proof.Machine.execRclC1s2 e imm s
  | .rcr_C1_3 e imm => Sys2Proof.Machine.execRcrC1s3 e imm s
  | .shl_C1_4 e imm => Sys2Proof.Machine.execShlC1s4 e imm s
  | .shr_C1_5 e imm => Sys2Proof.Machine.execShrC1s5 e imm s
  | .sar_C1_7 e imm => Sys2Proof.Machine.execSarC1s7 e imm s
  | .ret_C2 imm => Sys2Proof.Machine.execRetC2 imm s
  | .ret_C3 => Sys2Proof.Machine.execRetC3 s
  | .les_C4 reg e => Sys2Proof.Machine.execLesC4 reg e s
  | .lds_C5 reg e => Sys2Proof.Machine.execLdsC5 reg e s
  | .mov_C6_0 e imm => Sys2Proof.Machine.execMovC6s0 e imm s
  | .mov_C7_0 e imm => Sys2Proof.Machine.execMovC7s0 e imm s
  | .enter_C8 size level => Sys2Proof.Machine.execEnterC8 size level s
  | .leave_C9 => Sys2Proof.Machine.execLeaveC9 s
  | .retf_CA imm => Sys2Proof.Machine.execRetfCA imm s
  | .retf_CB => Sys2Proof.Machine.execRetfCB s
  | .int3_CC => Sys2Proof.Machine.execInt3CC s
  | .int_CD imm => Sys2Proof.Machine.execIntCD imm s
  | .into_CE => Sys2Proof.Machine.execIntoCE s
  | .iret_CF => Sys2Proof.Machine.execIretCF s
  | .rol_D0_0 e => Sys2Proof.Machine.execRolD0s0 e s
  | .ror_D0_1 e => Sys2Proof.Machine.execRorD0s1 e s
  | .rcl_D0_2 e => Sys2Proof.Machine.execRclD0s2 e s
  | .rcr_D0_3 e => Sys2Proof.Machine.execRcrD0s3 e s
  | .shl_D0_4 e => Sys2Proof.Machine.execShlD0s4 e s
  | .shr_D0_5 e => Sys2Proof.Machine.execShrD0s5 e s
  | .sar_D0_7 e => Sys2Proof.Machine.execSarD0s7 e s
  | .rol_D1_0 e => Sys2Proof.Machine.execRolD1s0 e s
  | .ror_D1_1 e => Sys2Proof.Machine.execRorD1s1 e s
  | .rcl_D1_2 e => Sys2Proof.Machine.execRclD1s2 e s
  | .rcr_D1_3 e => Sys2Proof.Machine.execRcrD1s3 e s
  | .shl_D1_4 e => Sys2Proof.Machine.execShlD1s4 e s
  | .shr_D1_5 e => Sys2Proof.Machine.execShrD1s5 e s
  | .sar_D1_7 e => Sys2Proof.Machine.execSarD1s7 e s
  | .rol_D2_0 e => Sys2Proof.Machine.execRolD2s0 e s
  | .ror_D2_1 e => Sys2Proof.Machine.execRorD2s1 e s
  | .rcl_D2_2 e => Sys2Proof.Machine.execRclD2s2 e s
  | .rcr_D2_3 e => Sys2Proof.Machine.execRcrD2s3 e s
  | .shl_D2_4 e => Sys2Proof.Machine.execShlD2s4 e s
  | .shr_D2_5 e => Sys2Proof.Machine.execShrD2s5 e s
  | .sar_D2_7 e => Sys2Proof.Machine.execSarD2s7 e s
  | .rol_D3_0 e => Sys2Proof.Machine.execRolD3s0 e s
  | .ror_D3_1 e => Sys2Proof.Machine.execRorD3s1 e s
  | .rcl_D3_2 e => Sys2Proof.Machine.execRclD3s2 e s
  | .rcr_D3_3 e => Sys2Proof.Machine.execRcrD3s3 e s
  | .shl_D3_4 e => Sys2Proof.Machine.execShlD3s4 e s
  | .shr_D3_5 e => Sys2Proof.Machine.execShrD3s5 e s
  | .sar_D3_7 e => Sys2Proof.Machine.execSarD3s7 e s
  | .aam_D4 imm => Sys2Proof.Machine.execAamD4 imm s
  | .aad_D5 imm => Sys2Proof.Machine.execAadD5 imm s
  | .xlat_D7 => Sys2Proof.Machine.execXlatD7 s
  | .esc_D8 r => Sys2Proof.Machine.execEscD8 r s
  | .loopne_E0 rel => Sys2Proof.Machine.execLoopneE0 rel s
  | .loope_E1 rel => Sys2Proof.Machine.execLoopeE1 rel s
  | .loop_E2 rel => Sys2Proof.Machine.execLoopE2 rel s
  | .jcxz_E3 rel => Sys2Proof.Machine.execJcxzE3 rel s
  | .in_E4 imm => Sys2Proof.Machine.execInE4 imm s
  | .in_E5 imm => Sys2Proof.Machine.execInE5 imm s
  | .out_E6 imm => Sys2Proof.Machine.execOutE6 imm s
  | .out_E7 imm => Sys2Proof.Machine.execOutE7 imm s
  | .call_E8 rel => Sys2Proof.Machine.execCallE8 rel s
  | .jmp_E9 rel => Sys2Proof.Machine.execJmpE9 rel s
  | .jmpf_EA off sel => Sys2Proof.Machine.execJmpfEA off sel s
  | .jmp_EB rel => Sys2Proof.Machine.execJmpEB rel s
  | .in_EC => Sys2Proof.Machine.execInEC s
  | .in_ED => Sys2Proof.Machine.execInED s
  | .out_EE => Sys2Proof.Machine.execOutEE s
  | .out_EF => Sys2Proof.Machine.execOutEF s
  | .hlt_F4 => Sys2Proof.Machine.execHltF4 s
  | .cmc_F5 => Sys2Proof.Machine.execCmcF5 s
  | .test_F6_0 e imm => Sys2Proof.Machine.execTestF6s0 e imm s
  | .not_F6_2 e => Sys2Proof.Machine.execNotF6s2 e s
  | .neg_F6_3 e => Sys2Proof.Machine.execNegF6s3 e s
  | .mul_F6_4 e => Sys2Proof.Machine.execMulF6s4 e s
  | .imul_F6_5 e => Sys2Proof.Machine.execImulF6s5 e s
  | .div_F6_6 e => Sys2Proof.Machine.execDivF6s6 e s
  | .idiv_F6_7 e => Sys2Proof.Machine.execIdivF6s7 e s
  | .test_F7_0 e imm => Sys2Proof.Machine.execTestF7s0 e imm s
  | .not_F7_2 e => Sys2Proof.Machine.execNotF7s2 e s
  | .neg_F7_3 e => Sys2Proof.Machine.execNegF7s3 e s
  | .mul_F7_4 e => Sys2Proof.Machine.execMulF7s4 e s
  | .imul_F7_5 e => Sys2Proof.Machine.execImulF7s5 e s
  | .div_F7_6 e => Sys2Proof.Machine.execDivF7s6 e s
  | .idiv_F7_7 e => Sys2Proof.Machine.execIdivF7s7 e s
  | .clc_F8 => Sys2Proof.Machine.execClcF8 s
  | .stc_F9 => Sys2Proof.Machine.execStcF9 s
  | .cli_FA => Sys2Proof.Machine.execCliFA s
  | .sti_FB => Sys2Proof.Machine.execStiFB s
  | .cld_FC => Sys2Proof.Machine.execCldFC s
  | .std_FD => Sys2Proof.Machine.execStdFD s
  | .inc_FE_0 e => Sys2Proof.Machine.execIncFEs0 e s
  | .dec_FE_1 e => Sys2Proof.Machine.execDecFEs1 e s
  | .inc_FF_0 e => Sys2Proof.Machine.execIncFFs0 e s
  | .dec_FF_1 e => Sys2Proof.Machine.execDecFFs1 e s
  | .call_FF_2 e => Sys2Proof.Machine.execCallFFs2 e s
  | .callf_FF_3 e => Sys2Proof.Machine.execCallfFFs3 e s
  | .jmp_FF_4 e => Sys2Proof.Machine.execJmpFFs4 e s
  | .jmpf_FF_5 e => Sys2Proof.Machine.execJmpfFFs5 e s
  | .push_FF_6 e => Sys2Proof.Machine.execPushFFs6 e s
  | .sldt_0F00_0 e => Sys2Proof.Machine.execSldt0F00s0 e s
  | .str_0F00_1 e => Sys2Proof.Machine.execStr0F00s1 e s
  | .lldt_0F00_2 e => Sys2Proof.Machine.execLldt0F00s2 e s
  | .ltr_0F00_3 e => Sys2Proof.Machine.execLtr0F00s3 e s
  | .verr_0F00_4 e => Sys2Proof.Machine.execVerr0F00s4 e s
  | .verw_0F00_5 e => Sys2Proof.Machine.execVerw0F00s5 e s
  | .sgdt_0F01_0 e => Sys2Proof.Machine.execSgdt0F01s0 e s
  | .sidt_0F01_1 e => Sys2Proof.Machine.execSidt0F01s1 e s
  | .lgdt_0F01_2 e => Sys2Proof.Machine.execLgdt0F01s2 e s
  | .lidt_0F01_3 e => Sys2Proof.Machine.execLidt0F01s3 e s
  | .smsw_0F01_4 e => Sys2Proof.Machine.execSmsw0F01s4 e s
  | .lmsw_0F01_6 e => Sys2Proof.Machine.execLmsw0F01s6 e s
  | .lar_0F02 reg e => Sys2Proof.Machine.execLar0F02 reg e s
  | .lsl_0F03 reg e => Sys2Proof.Machine.execLsl0F03 reg e s
  | .clts_0F06 => Sys2Proof.Machine.execClts0F06 s
  | .mov_0F20 mod reg rm => Sys2Proof.Machine.execMov0F20 mod reg rm s
  | .mov_0F21 mod reg rm => Sys2Proof.Machine.execMov0F21 mod reg rm s
  | .mov_0F22 mod reg rm => Sys2Proof.Machine.execMov0F22 mod reg rm s
  | .mov_0F23 mod reg rm => Sys2Proof.Machine.execMov0F23 mod reg rm s
  | .mov_0F24 mod reg rm => Sys2Proof.Machine.execMov0F24 mod reg rm s
  | .mov_0F26 mod reg rm => Sys2Proof.Machine.execMov0F26 mod reg rm s
  | .jo_0F80 rel => Sys2Proof.Machine.execJo0F80 rel s
  | .jno_0F81 rel => Sys2Proof.Machine.execJno0F81 rel s
  | .jb_0F82 rel => Sys2Proof.Machine.execJb0F82 rel s
  | .jnb_0F83 rel => Sys2Proof.Machine.execJnb0F83 rel s
  | .jz_0F84 rel => Sys2Proof.Machine.execJz0F84 rel s
  | .jnz_0F85 rel => Sys2Proof.Machine.execJnz0F85 rel s
  | .jbe_0F86 rel => Sys2Proof.Machine.execJbe0F86 rel s
  | .jnbe_0F87 rel => Sys2Proof.Machine.execJnbe0F87 rel s
  | .js_0F88 rel => Sys2Proof.Machine.execJs0F88 rel s
  | .jns_0F89 rel => Sys2Proof.Machine.execJns0F89 rel s
  | .jp_0F8A rel => Sys2Proof.Machine.execJp0F8A rel s
  | .jnp_0F8B rel => Sys2Proof.Machine.execJnp0F8B rel s
  | .jl_0F8C rel => Sys2Proof.Machine.execJl0F8C rel s
  | .jnl_0F8D rel => Sys2Proof.Machine.execJnl0F8D rel s
  | .jle_0F8E rel => Sys2Proof.Machine.execJle0F8E rel s
  | .jnle_0F8F rel => Sys2Proof.Machine.execJnle0F8F rel s
  | .seto_0F90 reg e => Sys2Proof.Machine.execSeto0F90 reg e s
  | .setno_0F91 reg e => Sys2Proof.Machine.execSetno0F91 reg e s
  | .setb_0F92 reg e => Sys2Proof.Machine.execSetb0F92 reg e s
  | .setnb_0F93 reg e => Sys2Proof.Machine.execSetnb0F93 reg e s
  | .setz_0F94 reg e => Sys2Proof.Machine.execSetz0F94 reg e s
  | .setnz_0F95 reg e => Sys2Proof.Machine.execSetnz0F95 reg e s
  | .setbe_0F96 reg e => Sys2Proof.Machine.execSetbe0F96 reg e s
  | .setnbe_0F97 reg e => Sys2Proof.Machine.execSetnbe0F97 reg e s
  | .sets_0F98 reg e => Sys2Proof.Machine.execSets0F98 reg e s
  | .setns_0F99 reg e => Sys2Proof.Machine.execSetns0F99 reg e s
  | .setp_0F9A reg e => Sys2Proof.Machine.execSetp0F9A reg e s
  | .setnp_0F9B reg e => Sys2Proof.Machine.execSetnp0F9B reg e s
  | .setl_0F9C reg e => Sys2Proof.Machine.execSetl0F9C reg e s
  | .setnl_0F9D reg e => Sys2Proof.Machine.execSetnl0F9D reg e s
  | .setle_0F9E reg e => Sys2Proof.Machine.execSetle0F9E reg e s
  | .setnle_0F9F reg e => Sys2Proof.Machine.execSetnle0F9F reg e s
  | .push_0FA0 => Sys2Proof.Machine.execPush0FA0 s
  | .pop_0FA1 => Sys2Proof.Machine.execPop0FA1 s
  | .bt_0FA3 reg e => Sys2Proof.Machine.execBt0FA3 reg e s
  | .shld_0FA4 reg e imm => Sys2Proof.Machine.execShld0FA4 reg e imm s
  | .shld_0FA5 reg e => Sys2Proof.Machine.execShld0FA5 reg e s
  | .push_0FA8 => Sys2Proof.Machine.execPush0FA8 s
  | .pop_0FA9 => Sys2Proof.Machine.execPop0FA9 s
  | .bts_0FAB reg e => Sys2Proof.Machine.execBts0FAB reg e s
  | .shrd_0FAC reg e imm => Sys2Proof.Machine.execShrd0FAC reg e imm s
  | .shrd_0FAD reg e => Sys2Proof.Machine.execShrd0FAD reg e s
  | .imul_0FAF reg e => Sys2Proof.Machine.execImul0FAF reg e s
  | .lss_0FB2 reg e => Sys2Proof.Machine.execLss0FB2 reg e s
  | .btr_0FB3 reg e => Sys2Proof.Machine.execBtr0FB3 reg e s
  | .lfs_0FB4 reg e => Sys2Proof.Machine.execLfs0FB4 reg e s
  | .lgs_0FB5 reg e => Sys2Proof.Machine.execLgs0FB5 reg e s
  | .movzx_0FB6 reg e => Sys2Proof.Machine.execMovzx0FB6 reg e s
  | .movzx_0FB7 reg e => Sys2Proof.Machine.execMovzx0FB7 reg e s
  | .bt_0FBA_4 e imm => Sys2Proof.Machine.execBt0FBAs4 e imm s
  | .bts_0FBA_5 e imm => Sys2Proof.Machine.execBts0FBAs5 e imm s
  | .btr_0FBA_6 e imm => Sys2Proof.Machine.execBtr0FBAs6 e imm s
  | .btc_0FBA_7 e imm => Sys2Proof.Machine.execBtc0FBAs7 e imm s
  | .btc_0FBB reg e => Sys2Proof.Machine.execBtc0FBB reg e s
  | .bsf_0FBC reg e => Sys2Proof.Machine.execBsf0FBC reg e s
  | .bsr_0FBD reg e => Sys2Proof.Machine.execBsr0FBD reg e s
  | .movsx_0FBE reg e => Sys2Proof.Machine.execMovsx0FBE reg e s
  | .movsx_0FBF reg e => Sys2Proof.Machine.execMovsx0FBF reg e s
  | .unassignedOneByte b => Sys2Proof.Machine.execUnassignedOneByte b s
  | .unassignedTwoByte b => Sys2Proof.Machine.execUnassignedTwoByte b s

end Sys2Proof.Machine
end

