-- ==== Sys2Proof/Machine/Step.lean ====
section
/-!
DEFINITION. One step of the block: initialisation, accepting a request, serving one row of the opcode
table, sending the response. A request takes several steps, and the spec gives it any duration (DESIGN
CHOICE, safe: log entry 1).
-/

namespace Sys2Proof.Machine

noncomputable section

/-- The row at the cursor, or why there is none (R140, R161 to R165). -/
def State.decodeAt (s : State) (l : Latches) : Except DecodeError (Decoded × List Byte) :=
  decodeRow s.opcodeTable l.opMap l.attrs (s.fetch l)

/-- One step. Before initialisation: build the tables (R950), or refuse a request (R39). With a response
at the port: send it (R48). With no request in progress: take the one presented (R954), or stay idle
(R952). With a request in progress: serve the row at the cursor (R240), a row only the configured table
has by the same mechanism (DESIGN CHOICE, safe: log entry 8). -/
def step (s : State) : Host.Outcome State Fault Refusal :=
  match s.initialized, s.response, s.latches, s.request with
  | false, _, _, some _ => .refused .requestBeforeInit
  | false, _, _, none => .next s.initialise
  | true, some _, _, _ => .next s.send
  | true, none, none, none => .next s
  | true, none, none, some r => .next (s.accept r)
  | true, none, some l, _ =>
    match s.decodeAt l with
    | .error e => .next (s.decodeFailure l e)
    | .ok (.row i, _) => Sys2Proof.Machine.exec i s
    | .ok (.configured k d f, _) => serveRow k d f s

end

/-- The latches of a request whose next row is the first byte of `bs`, or for a table word whose first
byte is the escape the byte after it (DESIGN CHOICE, safe: log entry 2). -/
def fetchLatches (r : Request) (escaped : Bool) : Latches :=
  if escaped then { (Latches.start r).endScan with cur := r.offset + 1 } else Latches.start r

/-- `s` initialised, with a request in progress whose view holds the table word's bytes from offset 0,
the segment default 16-bit, and nothing read but the escape of a two-byte row. -/
def State.withFetchWord (s : State) (nbits w : Nat) : State :=
  let r : Request := ⟨Memory.ofBytes (tableStream nbits w), 0, false⟩
  let s' := if s.initialized then s else s.initialise
  { s' with
    request := some r, response := none,
    latches := some (fetchLatches r (decide (8 < nbits) && (tableStream nbits w).head? == some 0x0F#8)) }

end Sys2Proof.Machine
end

