-- ==== Sys2Proof/Machine/Consumer.lean ====
section
/-!
DEFINITION. What the spec has the consumer compute from a response (43_decoder.md R252; 42_addressing_resolver.md
R195, R202, R203, R215; 60_exceptions.md R907). The block does none of it and step calls nothing of this file;
a statement uses it to say what an Instruction means to the engine that receives it.
-/

namespace Sys2Proof.Machine

/-- The bits of a width: `osz` and `asz` as the spec writes them (R9). -/
def widthBits (w : Width) : Nat := 8 * w.bytes

/-- `sext_N(v)` for the N bits of an `n`-byte field; an absent field is 0 (R11). -/
def sextBytes (n v : Nat) : Int := if 2 * v < 2 ^ (8 * n) then v else (v : Int) - 2 ^ (8 * n)

/-- `value(reg)`, an absent register counting 0 (R215). -/
def registerValue (value : Reg → Nat) : Option Reg → Nat
  | some r => value r
  | none => 0

/-- The effective offset a memory operand denotes: `(value(reg) + value(reg2) * scale + displacement) mod
2^asz` (R215). -/
def effectiveOffset (value : Reg → Nat) (asz : Width) (o : OperandDescriptor) : Int :=
  ((registerValue value o.reg + registerValue value o.reg2 * o.scale : Nat) + o.displacement) % 2 ^ widthBits asz

/-- The immediate of a `bs` spec as the consumer reads it (R202). -/
def signedImmediate (o : OperandDescriptor) : Int := sextBytes o.immedSize o.immed

/-- The target of a relative operand: `(next + sext(immed)) mod 2^osz`, `next` the offset of the following
instruction (R203). -/
def relativeTarget (osz : Width) (next : Nat) (o : OperandDescriptor) : Int :=
  ((next : Int) + signedImmediate o) % 2 ^ widthBits osz

/-- The offset of the following instruction: the consumer advances by `length` (R252). -/
def nextOffset (offset : Nat) (ins : Instruction) : Nat := offset + ins.length

/-- An M-class operand encoded with mod = 11: the consumer must refuse the Instruction (R107, R195). -/
def Instruction.registerDirectM (ins : Instruction) : Bool :=
  let ops := ins.operand1.toList ++ ins.operand2.toList ++ ins.operand3.toList
  (ins.opcodeDescriptor.specs.zip ops).any fun x => match x.1 with
    | .M _ => !x.2.isPointer
    | .E _ | .G _ | .R _ | .S _ | .C _ | .D _ | .T _ | .O _ | .I _ | .J _ | .one | .fixed _ | .Z _ | .X _
    | .Y _ | .fpu => false

/-- The emulated faults the caller maps a failure to (R907). -/
inductive CallerFault where
  | invalidOpcode
  | segmentBoundary
deriving DecidableEq, Repr

/-- The mapping of R907. -/
def FailKind.callerFault : FailKind → CallerFault
  | .invalidOpcode | .unsupportedAddressingMode => .invalidOpcode
  | .truncatedInstruction => .segmentBoundary

end Sys2Proof.Machine
end

