-- ==== Sys2Proof/Machine/Decoder.lean ====
section
/-!
DEFINITION. `Decode(view, offset, is32)` of 43_decoder.md R240 as the spec writes it: one procedure over
the view, with `MemRead` (00_scope.md R12), the cursor threaded through it and the first failing step
reported (60_exceptions.md R905). The machine serves the same request row by row (Step.lean); that both
give one response is a statement about this definition.
-/

namespace Sys2Proof.Machine

/-! ## Reading the view (R12, R902) -/

/-- What a request reads from: its view, where the view ends (R906), and its start offset. -/
structure Source where
  view : Memory
  limit : Nat
  offset : Nat
deriving DecidableEq, Repr

/-- `sum byte(p+k) * 256^k`, little-endian and unsigned (R12). -/
def littleEndian (v : Memory) : Nat → Nat → Nat
  | _, 0 => 0
  | p, n + 1 => ((v.byteAt p).getD 0#8).toNat + 256 * littleEndian v (p + 1) n

/-- A failure of this request (R900). -/
def Source.failure (src : Source) (kind : FailKind) (atOffset : Nat) (field : FailField) (bytes : List Byte) :
    Failure := ⟨kind, src.offset, atOffset, field, bytes⟩

/-- `MemRead(p, n, field)` (R12, R902). -/
def memRead (src : Source) (p n : Nat) (field : FailField) : Except Failure Nat :=
  if p + n ≤ src.limit then .ok (littleEndian src.view p n)
  else .error (src.failure .truncatedInstruction p field (src.view.bytesFrom p src.limit))

/-- One byte of the view. -/
def readByte (src : Source) (p : Nat) (field : FailField) : Except Failure Byte :=
  (memRead src p 1 field).map (BitVec.ofNat 8)

/-! ## Step 1: the prefix scan (R140) -/

/-- The prefix state and the cursor at the first opcode byte. The fuel bounds the bytes read; the scan of
a view of `limit` bytes ends before it runs out (R249). -/
def scanPrefixes (src : Source) : Nat → Nat → PrefixState → Except Failure (PrefixState × Nat)
  | 0, cur, _ => .error (src.failure .truncatedInstruction cur .opcode [])
  | fuel + 1, cur, ps =>
    match readByte src cur .opcode with
    | .error f => .error f
    | .ok b =>
      match applyPrefix b ps with
      | some ps' => scanPrefixes src fuel (cur + 1) ps'
      | none => .ok (ps, cur)

/-! ## Step 3: the opcode key (R161) -/

/-- The key and the cursor after it. -/
def readKey (src : Source) (cur : Nat) : Except Failure (Key × Nat) :=
  match readByte src cur .opcode with
  | .error f => .error f
  | .ok b0 =>
    if b0 = 0x0F#8 then
      match readByte src (cur + 1) .opcode with
      | .error f => .error f
      | .ok b1 => .ok (.two b1, cur + 2)
    else .ok (.one b0, cur + 1)

/-! ## Steps 4 and 5: lookup, group and unsupported method (R163, R162, R165) -/

/-- A final descriptor: the ModRM byte peeked for it, and whether its entry is a group. -/
structure Selected where
  desc : OpcodeDescriptor
  inGroup : Bool
deriving DecidableEq, Repr

/-- The final descriptor at a key (R163, R162); the peek does not move the cursor. -/
def selectDescriptor (src : Source) (t : OpcodeTable) (k : Key) (opcAt cur : Nat) : Except Failure Selected :=
  match t.find k with
  | none => .error (src.failure .invalidOpcode opcAt .opcode k.bytes)
  | some (.desc d) => .ok ⟨d, false⟩
  | some (.group sub) =>
    match readByte src cur .modrm with
    | .error f => .error f
    | .ok m =>
      match sub[(m.extractLsb' 3 3).toNat]?.join with
      | none => .error (src.failure .invalidOpcode opcAt .opcode (k.bytes ++ [m]))
      | some d => .ok ⟨d, true⟩

/-! ## Step 6: the ModRM block (R183, R198, R184) -/

/-- The ModRM byte and the memory part, where the instruction has them. -/
structure Block where
  modrm : Option Byte
  mem : Option MemoryOperand
deriving DecidableEq, Repr

/-- A displacement of `n` bytes at `cur`; nothing is read for 0 (R185 to R187). -/
def readDisplacement (src : Source) (cur n : Nat) : Except Failure Nat :=
  if n = 0 then .ok 0 else memRead src cur n .displacement

/-- The memory part of a ModRM byte with mod ≠ 11, and the cursor after it (R184 to R188). -/
def readMemoryPart (src : Source) (regs : RegisterTable) (asz : Width) (mod : BitVec 2) (rm : BitVec 3)
    (cur : Nat) : Except Failure (MemoryOperand × Nat) :=
  match asz with
  | .s16 =>
    match readDisplacement src cur (dispSize16 mod rm) with
    | .error f => .error f
    | .ok d => .ok (memory16 mod rm d (dispSize16 mod rm), cur + dispSize16 mod rm)
  | .s32 =>
    if rm = 4#3 then
      match readByte src cur .sib with
      | .error f => .error f
      | .ok b =>
        let s := Sib.ofByte b
        match readDisplacement src (cur + 1) (dispSize32 mod s.base) with
        | .error f => .error f
        | .ok d =>
          .ok (memorySib regs mod s d (dispSize32 mod s.base), cur + 1 + dispSize32 mod s.base)
    else
      match readDisplacement src cur (dispSize32 mod rm) with
      | .error f => .error f
      | .ok d => .ok (memory32 regs mod rm d (dispSize32 mod rm), cur + dispSize32 mod rm)

/-- Step 6 of R240. -/
def readModRMBlock (src : Source) (regs : RegisterTable) (asz : Width) (k : Key) (sel : Selected)
    (opcAt cur : Nat) : Except Failure (Block × Nat) :=
  if sel.inGroup || sel.desc.specs.any Spec.readsModRM then
    match readByte src cur .modrm with
    | .error f => .error f
    | .ok m =>
      if sel.desc.specs.any Spec.isS && decide (6 ≤ (m.extractLsb' 3 3).toNat) then
        .error (src.failure .invalidOpcode opcAt .opcode (k.bytes ++ [m]))
      else if m.extractLsb' 6 2 ≠ 3#2 ∧ sel.desc.specs.any Spec.readsMem then
        match readMemoryPart src regs asz (m.extractLsb' 6 2) (m.extractLsb' 0 3) (cur + 1) with
        | .error f => .error f
        | .ok (mo, cur') => .ok (⟨some m, some mo⟩, cur')
      else .ok (⟨some m, none⟩, cur + 1)
  else .ok (⟨none, none⟩, cur)

/-! ## Step 7: the operands in declared order (R180) -/

/-- One operand, reading its trailing field at the cursor if it has one (R200, R201, R203). -/
def resolveAt (src : Source) (c : Ctx) (sp : Spec) (cur : Nat) : Except Failure (OperandDescriptor × Nat) :=
  match sp with
  | .O _ =>
    match memRead src cur c.asz.bytes .offset with
    | .error f => .error f
    | .ok v => .ok (offsetOperand c v c.asz.bytes, cur + c.asz.bytes)
  | .I t | .J t =>
    match memRead src cur (immSize c.osz t) .immediate with
    | .error f => .error f
    | .ok v => .ok (immediateOperand c v (immSize c.osz t), cur + immSize c.osz t)
  | _ => .ok (resolve c sp .absent, cur)

/-- All of them. -/
def resolveSpecs (src : Source) (c : Ctx) : List Spec → Nat → Except Failure (List OperandDescriptor × Nat)
  | [], cur => .ok ([], cur)
  | sp :: sps, cur =>
    match resolveAt src c sp cur with
    | .error f => .error f
    | .ok (op, cur') =>
      match resolveSpecs src c sps cur' with
      | .error f => .error f
      | .ok (ops, cur'') => .ok (op :: ops, cur'')

/-! ## The procedure -/

/-- Steps 4 to 8, from the key on. -/
def decodeFromKey (src : Source) (t : OpcodeTable) (regs : RegisterTable) (a : Attrs) (ps : PrefixState)
    (opcAt : Nat) (k : Key) (cur : Nat) : Except Failure Instruction :=
  match selectDescriptor src t k opcAt cur with
  | .error f => .error f
  | .ok sel =>
    if sel.desc.specs.any Spec.isFpu then
      .error (src.failure .unsupportedAddressingMode opcAt .opcode k.bytes)
    else
      match readModRMBlock src regs a.asz k sel opcAt cur with
      | .error f => .error f
      | .ok (blk, cur') =>
        let c : Ctx := ⟨regs, a.osz, a.asz, ps.seg, k, blk.modrm.map ModRM.ofByte, blk.mem⟩
        match resolveSpecs src c sel.desc.specs cur' with
        | .error f => .error f
        | .ok (ops, cur'') =>
          .ok ⟨sel.desc, cur'' - src.offset, a.osz = .s32, a.asz = .s32,
            ops[0]?, ops[1]?, ops[2]?, ps.seg, ps.lock, ps.rep⟩

/-- Steps 1 to 8 of R240. -/
def decodeSteps (src : Source) (t : OpcodeTable) (regs : RegisterTable) (is32 : Bool) :
    Except Failure Instruction :=
  match scanPrefixes src (src.limit - src.offset + 1) src.offset PrefixState.start with
  | .error f => .error f
  | .ok (ps, cur) =>
    match readKey src cur with
    | .error f => .error f
    | .ok (k, cur') => decodeFromKey src t regs (effectiveAttrs is32 ps) ps cur k cur'

/-- The response to a request: `Decode(view, offset, is32)` (R240, R246). -/
def decodeRequest (p : Params) (t : OpcodeTable) (regs : RegisterTable) (r : Request) : Response :=
  match decodeSteps ⟨r.view, viewLimit p r, r.offset⟩ t regs r.is32 with
  | .ok ins => .ok ins
  | .error f => .err f

end Sys2Proof.Machine
end

