-- ==== Sys2Proof/Safety.lean ====
section
/-!
DEFINITION. The terms claims use: the invariant of the block, the states in which a row can be served, and
the two ways a request ends, written from the spec's own description of them (43_decoder.md R240, R241;
60_exceptions.md R900 to R904).
-/

namespace Sys2Proof

/-! ## What a decoded row is -/

/-- The key and the fields of a decoded row. -/
def Decoded.keyFields : Decoded → Key × Fields
  | .row i => (i.parts.key, i.parts.fields)
  | .configured k _ f => (k, f)

/-- The descriptor of a decoded row, where it has one (a prefix, the escape and an unassigned opcode have
none). -/
def Decoded.descriptor : Decoded → Option OpcodeDescriptor
  | .row i => defaultTable.descriptor? i.parts.key i.parts.slot
  | .configured _ d _ => some d

end Sys2Proof

namespace Sys2Proof.Machine

/-! ## The invariant -/

/-- The latches before the opcode row: nothing beyond the prefix scan has a value (R43 to R47), the cursor
is at or after the start offset (R45), and once the escape has been read the widths and the offset of the
first opcode byte are latched (R147, R148, R161). -/
structure Latches.Scanning (l : Latches) : Prop where
  key : l.key = none
  entry : l.entry = none
  desc : l.desc = none
  modrm : l.modrm = none
  mem : l.mem = none
  ops : l.ops = []
  start : l.req.offset ≤ l.opcodeAt
  scan : l.opcAt = none → l.osz = none ∧ l.asz = none
  escape : ∀ o, l.opcAt = some o → l.cur = o + 1 ∧
    l.osz = some (effectiveWidth l.req.is32 l.ps.opsz) ∧ l.asz = some (effectiveWidth l.req.is32 l.ps.adsz)

/-- What holds in every state of the block, whatever its parameters. -/
structure Inv (s : State) : Prop where
  /-- before initialisation there are no tables, no request in progress and no response (R950, R951) -/
  fresh : s.initialized = false →
    s.opcodeTable = [] ∧ s.registerTable = RegisterTable.empty ∧ s.response = none ∧ s.latches = none
  /-- afterwards both tables are the configured ones, for ever (R950) -/
  tables : s.initialized = true →
    s.opcodeTable = s.params.opcodeTable ∧ s.registerTable = RegisterTable.fixed
  /-- the view at the port is a finite byte sequence at the offsets 0 to L-1 (R40, R70) -/
  view : ∀ r, s.request = some r → r.view.wf = true
  /-- the latches belong to the request at the port, and the cursor has not passed the view's limit
  (R45, R48, R906) -/
  inProgress : ∀ l, s.latches = some l → s.request = some l.req ∧
    l.cur ≤ max l.req.offset (viewLimit s.params l.req)
  /-- without a response the opcode row is still to come -/
  scanning : ∀ l, s.latches = some l → s.response = none → l.Scanning
  /-- an Instruction at the port is what the latches hold, and its length is `cur - offset` (R45, R241) -/
  answered : ∀ ins, s.response = some (.ok ins) → ∃ l d, s.latches = some l ∧ l.desc = some d ∧
    ins = l.instruction d ∧ ins.length + l.req.offset = l.cur
  /-- a failure at the port is of the request at the port, and nothing else of it is kept (R900, R904) -/
  failed : ∀ f, s.response = some (.err f) → s.latches = none ∧
    ∃ r, s.request = some r ∧ f.offset = r.offset ∧ r.offset ≤ f.atOffset

/-! ## When a row is served -/

/-- The block has a request in progress with latches `l` and has not answered it: a row is served next. -/
structure Serving (s : State) (l : Latches) : Prop where
  initialized : s.initialized = true
  registers : s.registerTable = RegisterTable.fixed
  request : s.request = some l.req
  response : s.response = none
  latches : s.latches = some l
  scanning : l.Scanning

/-- The default configuration after initialisation: the table of 44 to 49 (R4). -/
def DefaultTables (s : State) : Prop := s.opcodeTable = defaultTable

/-! ## How a request ends -/

/-- The operands of a row: one per spec in declared order, resolved at the effective widths of the
request (R180, R240 step 7). -/
def rowOperands (l : Latches) (k : Key) (specs : List Spec) (f : Fields) (mem : Option MemoryOperand) :
    List OperandDescriptor :=
  resolveAll ⟨RegisterTable.fixed, effectiveWidth l.req.is32 l.ps.opsz, effectiveWidth l.req.is32 l.ps.adsz,
    l.ps.seg, k, f.modrm, mem⟩ specs f.trailing

/-- The memory part of the row's ModRM block: parsed when mod is not 11 and a spec is E or M (R184). -/
def rowMemory (l : Latches) (specs : List Spec) (f : Fields) : Option MemoryOperand :=
  match f.modrm with
  | some m =>
    if m.mod ≠ 3#2 ∧ specs.any Spec.readsMem then
      some (memoryPart RegisterTable.fixed (effectiveWidth l.req.is32 l.ps.adsz) m f.sib f.disp.value f.disp.size)
    else none
  | none => none

/-- The Instruction a row gives (R241): its descriptor, `cur - offset` with the opcode byte and the fields
consumed, the two attributes, the operands and the recorded prefixes. -/
def rowInstruction (l : Latches) (k : Key) (name : String) (specs : List Spec) (f : Fields) : Instruction :=
  let ops := rowOperands l k specs f (rowMemory l specs f)
  ⟨⟨name, specs, false⟩, l.cur + 1 + f.size - l.req.offset, l.req.is32 != l.ps.opsz, l.req.is32 != l.ps.adsz,
    ops[0]?, ops[1]?, ops[2]?, l.ps.seg, l.ps.lock, l.ps.rep⟩

/-- The state with that Instruction at the response port and every latch of the row set (R43 to R47), kept
until the response is sent (DESIGN CHOICE, safe: log entry 7). The frame is everything else: parameters, tables, `initialized` and the request are as before. -/
def answered (s : State) (l : Latches) (k : Key) (name : String) (specs : List Spec) (f : Fields) : State :=
  { s with
    response := some (.ok (rowInstruction l k name specs f))
    latches := some
      { req := l.req, ps := l.ps
        osz := some (effectiveWidth l.req.is32 l.ps.opsz), asz := some (effectiveWidth l.req.is32 l.ps.adsz)
        key := some k, entry := s.opcodeTable.find k, desc := some ⟨name, specs, false⟩
        opcAt := some l.opcodeAt, cur := l.cur + 1 + f.size
        modrm := f.modrm.map ModRM.toByte, mem := rowMemory l specs f
        ops := rowOperands l k specs f (rowMemory l specs f) } }

/-- The state with a failure at the response port and no latch left (R900, R904). The frame is everything
else. -/
def failed (s : State) (l : Latches) (kind : FailKind) (atOffset : Nat) (field : FailField)
    (bytes : List Byte) : State :=
  { s with response := some (.err ⟨kind, l.req.offset, atOffset, field, bytes⟩), latches := none }

/-! ## What stands at the cursor -/

/-- The bytes the scanner takes before an opcode: the eleven prefixes (R92) and the escape (R93). -/
def scannerBytes : List Byte :=
  [0x26#8, 0x2E#8, 0x36#8, 0x3E#8, 0x64#8, 0x65#8, 0x66#8, 0x67#8, 0xF0#8, 0xF2#8, 0xF3#8, 0x0F#8]

/-- The key at the cursor is `k` and `rest` are the bytes after it: a one-byte opcode that the scanner does
not take, or the byte after the escape (R161). -/
def KeyAt (s : State) (l : Latches) (k : Key) (rest : List Byte) : Prop :=
  match k with
  | .one b => l.opcAt = none ∧ b ∉ scannerBytes ∧ s.fetch l = b :: rest
  | .two b => l.opcAt.isSome = true ∧ s.fetch l = b :: rest

/-- The final descriptor at a key: the entry itself, or the group's slot that the reg field of the next
byte selects (R162, R163). -/
def FinalDescriptor (t : OpcodeTable) (k : Key) (rest : List Byte) (d : OpcodeDescriptor) : Prop :=
  t.find k = some (.desc d) ∨
  ∃ slots m more, t.find k = some (.group slots) ∧ rest = m :: more ∧
    slots[(m.extractLsb' 3 3).toNat]? = some (some d)

/-- The operand descriptors of an Instruction. -/
def Instruction.operands (ins : Instruction) : List OperandDescriptor :=
  ins.operand1.toList ++ ins.operand2.toList ++ ins.operand3.toList

/-- The bytes a request's view holds at `p` and after, as `MemRead` reaches them (R12, R906). -/
def Request.bytesAt (r : Request) (p : Params) (q : Nat) : List Byte := r.view.bytesFrom q (viewLimit p r)

/-! ## Which fields a row reads -/

/-- The memory part's fields with their sizes, as far as the bytes from the ModRM byte on say: without its
SIB byte the size of the displacement after it is not known (R184 to R187). -/
def memoryFields (a : Attrs) (d : OpcodeDescriptor) : List Byte → List (Nat × FailField)
  | [] => []
  | m :: more =>
    let mod := m.extractLsb' 6 2
    let rm := m.extractLsb' 0 3
    if mod = 3#2 ∨ d.specs.any Spec.readsMem = false then []
    else match a.asz with
      | .s16 => [(dispSize16 mod rm, .displacement)]
      | .s32 =>
        if rm = 4#3 then
          (1, .sib) :: match more with
            | [] => []
            | s :: _ => [(dispSize32 mod (s.extractLsb' 0 3), .displacement)]
        else [(dispSize32 mod rm, .displacement)]

/-- The fields after the key with their sizes, in stream order: the ModRM block, then the trailing fields
in the declared order of their specs (R90, R124, R183). -/
def rowFields (a : Attrs) (inGroup : Bool) (d : OpcodeDescriptor) (rest : List Byte) : List (Nat × FailField) :=
  (if inGroup || d.specs.any Spec.readsModRM then (1, .modrm) :: memoryFields a d rest else []) ++
    d.specs.filterMap (Spec.trailing? a)

/-- `field`, of `n` bytes, is the first field that `rest` does not hold whole, and starts `p` bytes into it
(R902, R905). -/
def FirstCut (fields : List (Nat × FailField)) (rest : List Byte) (field : FailField) (n p : Nat) : Prop :=
  ∃ before after, fields = before ++ (n, field) :: after ∧ p = (before.map Prod.fst).sum ∧
    p ≤ rest.length ∧ rest.length < p + n

/-- Is the entry at the key a group? (R162) -/
def isGroup (t : OpcodeTable) (k : Key) : Bool :=
  match t.find k with
  | some (.group _) => true
  | some (.desc _) | none => false

/-! ## Runs -/

/-- The rows of a prefix run, executed in order. -/
def execAll : List Instr → State → Host.Outcome State Fault Refusal
  | [], s => .next s
  | i :: is, s =>
    match exec i s with
    | .next t => execAll is t
    | .fault r => .fault r
    | .refused r => .refused r

/-- Is the row a prefix byte? (R92) -/
def isPrefixRow (i : Instr) : Bool :=
  [.prefixES, .prefixCS, .prefixSS, .prefixDS, .prefixFS, .prefixGS, .prefixOPSIZE, .prefixADDRSIZE,
    .prefixLOCK, .prefixREPNE, .prefixREP].contains i

/-- The segment register a prefix row names, if it is an override (R142). -/
def prefixSegment (i : Instr) : Option SegReg :=
  ([(.prefixES, .es), (.prefixCS, .cs), (.prefixSS, .ss), (.prefixDS, .ds), (.prefixFS, .fs),
    (.prefixGS, .gs)] : List (Instr × SegReg)).lookup i

/-- The repeat prefix a prefix row records, if it is one (R146). -/
def prefixRep (i : Instr) : Option Rep :=
  ([(.prefixREPNE, .repne), (.prefixREP, .rep)] : List (Instr × Rep)).lookup i

/-- A prefix run read byte by byte from a prefix state: `none` where a byte is no prefix (R140). -/
def prefixRun : List Byte → PrefixState → Option PrefixState
  | [], ps => some ps
  | b :: bs, ps => (applyPrefix b ps).bind (prefixRun bs)

end Sys2Proof.Machine
end

