-- ==== Sys2Proof/Certificates/Slice0/Obligations.lean ====
section
/-!
DEFINITION. The statements for the provers. A docstring names the rules of spec/ a statement rests on; a
statement about an operation of one row says in its equation everything the row changes, so that its frame
is the rest of the state.
-/

section

open Sys2Proof Sys2Proof.Machine

/-- Reset leaves the tables empty, the block not initialised, the ports empty and no latch. In State.reset
both tables are empty, initialized is false, the request and response ports are empty and no latch holds
a value; the parameters are the defaults (that they are a field of State is the model's choice, log entry
3). (70_reset_and_hazards.md R951; 10_state.md R55; 00_scope.md R4; notes/assumptions/3.md). -/
def Obligations.ResetState : Prop :=
  State.reset.opcodeTable = [] ∧ State.reset.registerTable = RegisterTable.empty ∧
    State.reset.initialized = false ∧ State.reset.request = none ∧ State.reset.response = none ∧
    State.reset.latches = none ∧ State.reset.params.opcodeTable = defaultTable ∧
    State.reset.params.maxInstrLen = none

/-- Initialisation builds both tables once, and nothing changes them afterwards. At reset both tables are
empty and initialized is false, and the configured table is the default one; a step from a state that is
not initialised and has no request builds both tables from the parameters and sets initialized, changing
nothing else; every later step leaves both tables, the parameters and initialized as they are; a request
presented before initialisation is refused. That the parameters are a field no step writes is the model's
choice (log entry 3), and so is that initialisation runs only while no request is at the port (log entry
11). (70_reset_and_hazards.md R950; 10_state.md R39; 00_scope.md R4; notes/assumptions/3.md;
notes/assumptions/11.md). -/
def Obligations.Initialisation : Prop :=
  (State.reset.opcodeTable = [] ∧ State.reset.registerTable = RegisterTable.empty ∧
      State.reset.initialized = false ∧ State.reset.params.opcodeTable = defaultTable) ∧
    (∀ s : State, s.initialized = false → s.request = none →
      step s = .next { s with
        opcodeTable := s.params.opcodeTable, registerTable := RegisterTable.fixed, initialized := true }) ∧
    (∀ s t : State, s.initialized = true → step s = .next t →
      t.initialized = true ∧ t.opcodeTable = s.opcodeTable ∧ t.registerTable = s.registerTable ∧
      t.params = s.params) ∧
    (∀ (s : State) (r : Request), s.initialized = false → s.request = some r →
      step s = .refused .requestBeforeInit)

/-- A request starts from the start values of every latch, whatever came before. An initialised block with no
response and no request in progress that has a request at its port takes it: the next state has every
latch at its start value and nothing else changed. The start values are the spec's; that accepting is a
step of its own that leaves the request at its port is the model's choice (log entry 1), and the latch
that holds the request as a snapshot is the model's reading of R80 (log entry 4).
(70_reset_and_hazards.md R951; 70_reset_and_hazards.md R954; 20_memory.md R80; notes/assumptions/1.md;
notes/assumptions/4.md). -/
def Obligations.AcceptStartsFresh : Prop :=
  ∀ (s : State) (r : Request), s.initialized = true → s.response = none → s.latches = none →
    s.request = some r →
    step s = .next { s with
      latches := some ⟨r, ⟨none, false, false, false, none⟩, none, none, none, none, none, none, r.offset,
        none, none, []⟩ }

/-- When the response is sent the ports are empty and every latch is discarded; with no request the block is
idle. A step from an initialised state with a response empties both ports and discards every latch, and
changes nothing else; an initialised block with empty ports and no request in progress stays as it is,
since it starts nothing on its own. That sending is a step of its own, which empties both ports, is the
model's choice (log entry 7). (10_state.md R48; 10_state.md R55; 70_reset_and_hazards.md R951;
70_reset_and_hazards.md R952; notes/assumptions/7.md). -/
def Obligations.SendAndIdle : Prop :=
  (∀ (s : State) (p : Response), s.initialized = true → s.response = some p →
      step s = .next { s with request := none, response := none, latches := none }) ∧
    (∀ s : State, s.initialized = true → s.request = none → s.response = none → s.latches = none →
      step s = .next s)

/-- The invariant holds at reset. Inv holds of State.reset. (70_reset_and_hazards.md R951). -/
def Obligations.InvariantAtReset : Prop :=
  Inv State.reset

/-- Every step keeps the invariant. From every state with Inv, if step answers a next state, Inv holds of it:
the tables are the configured ones, the view at the port is a finite byte sequence, the latches belong to
the request at the port and the cursor stays within the view, an Instruction at the port is what the
latches hold with length cur - offset, and a failure at the port leaves no latch. What the ports and
latches hold between the steps of one request is the model's choice or reading (log entries 1, 4, 7 and
13). (10_state.md R45; 10_state.md R48; 60_exceptions.md R904; 60_exceptions.md R906;
70_reset_and_hazards.md R950; 70_reset_and_hazards.md R951; notes/assumptions/1.md;
notes/assumptions/4.md; notes/assumptions/7.md; notes/assumptions/13.md). -/
def Obligations.InvariantStep : Prop :=
  ∀ s t : State, Inv s → step s = .next t → Inv t

/-- Presenting a request to an idle port keeps the invariant, and an initialised block then takes it. The
requester may present any request whose view is a finite byte sequence, at any offset, when no request is
at the port: Inv is kept, and the next step of an initialised block accepts the request. That accepting
is a step of its own is the model's choice (log entry 1); what presenting at a port in use does is not
stated here (log entry 14). (10_state.md R40; 70_reset_and_hazards.md R953; 70_reset_and_hazards.md R954;
notes/assumptions/1.md; notes/assumptions/14.md). -/
def Obligations.InvariantPresent : Prop :=
  ∀ (s : State) (r : Request), Inv s → s.request = none → r.view.wf = true →
    Inv (s.present r) ∧
    (s.initialized = true → step (s.present r) = .next { s with
      request := some r
      latches := some ⟨r, ⟨none, false, false, false, none⟩, none, none, none, none, none, none, r.offset,
        none, none, []⟩ })

/-- What each prefix byte writes, with its frame. For every state with a request in progress, each prefix row
answers the next state in which its field of ps is written and the cursor is one further, and nothing
else is changed. (40_prefix_scanner.md R142; 40_prefix_scanner.md R143; 40_prefix_scanner.md R144;
40_prefix_scanner.md R145; 40_prefix_scanner.md R146; 40_prefix_scanner.md R140). -/
def Obligations.PrefixRows : Prop :=
  ∀ (s : State) (l : Latches), s.latches = some l →
    exec .prefixES s = .next { s with latches := some { l with ps := { l.ps with seg := some .es }, cur := l.cur + 1 } } ∧
    exec .prefixCS s = .next { s with latches := some { l with ps := { l.ps with seg := some .cs }, cur := l.cur + 1 } } ∧
    exec .prefixSS s = .next { s with latches := some { l with ps := { l.ps with seg := some .ss }, cur := l.cur + 1 } } ∧
    exec .prefixDS s = .next { s with latches := some { l with ps := { l.ps with seg := some .ds }, cur := l.cur + 1 } } ∧
    exec .prefixFS s = .next { s with latches := some { l with ps := { l.ps with seg := some .fs }, cur := l.cur + 1 } } ∧
    exec .prefixGS s = .next { s with latches := some { l with ps := { l.ps with seg := some .gs }, cur := l.cur + 1 } } ∧
    exec .prefixOPSIZE s = .next { s with latches := some { l with ps := { l.ps with opsz := true }, cur := l.cur + 1 } } ∧
    exec .prefixADDRSIZE s = .next { s with latches := some { l with ps := { l.ps with adsz := true }, cur := l.cur + 1 } } ∧
    exec .prefixLOCK s = .next { s with latches := some { l with ps := { l.ps with lock := true }, cur := l.cur + 1 } } ∧
    exec .prefixREPNE s = .next { s with latches := some { l with ps := { l.ps with rep := some .repne }, cur := l.cur + 1 } } ∧
    exec .prefixREP s = .next { s with latches := some { l with ps := { l.ps with rep := some .rep }, cur := l.cur + 1 } }

/-- The eleven prefix bytes, their effects, and that no other byte is a prefix. In every state in which a row
is served and the escape has not been read, a step over one of the eleven bytes of R92 makes the write
the table gives for that byte and consumes the byte; a step over any other byte leaves the prefix state
of the request unchanged for as long as the request goes on, and an Instruction it gives reports that
unchanged prefix state. (R92). -/
def Obligations.PrefixBytes : Prop :=
  ∀ (s : State) (l : Latches) (b : Byte) (rest : List Byte), Serving s l → l.opcAt = none →
    s.fetch l = b :: rest →
    (b = 0x26#8 → step s = .next { s with
      latches := some { l with ps := { l.ps with seg := some .es }, cur := l.cur + 1 } }) ∧
    (b = 0x2E#8 → step s = .next { s with
      latches := some { l with ps := { l.ps with seg := some .cs }, cur := l.cur + 1 } }) ∧
    (b = 0x36#8 → step s = .next { s with
      latches := some { l with ps := { l.ps with seg := some .ss }, cur := l.cur + 1 } }) ∧
    (b = 0x3E#8 → step s = .next { s with
      latches := some { l with ps := { l.ps with seg := some .ds }, cur := l.cur + 1 } }) ∧
    (b = 0x64#8 → step s = .next { s with
      latches := some { l with ps := { l.ps with seg := some .fs }, cur := l.cur + 1 } }) ∧
    (b = 0x65#8 → step s = .next { s with
      latches := some { l with ps := { l.ps with seg := some .gs }, cur := l.cur + 1 } }) ∧
    (b = 0x66#8 → step s = .next { s with
      latches := some { l with ps := { l.ps with opsz := true }, cur := l.cur + 1 } }) ∧
    (b = 0x67#8 → step s = .next { s with
      latches := some { l with ps := { l.ps with adsz := true }, cur := l.cur + 1 } }) ∧
    (b = 0xF0#8 → step s = .next { s with
      latches := some { l with ps := { l.ps with lock := true }, cur := l.cur + 1 } }) ∧
    (b = 0xF2#8 → step s = .next { s with
      latches := some { l with ps := { l.ps with rep := some .repne }, cur := l.cur + 1 } }) ∧
    (b = 0xF3#8 → step s = .next { s with
      latches := some { l with ps := { l.ps with rep := some .rep }, cur := l.cur + 1 } }) ∧
    (b ∉ [0x26#8, 0x2E#8, 0x36#8, 0x3E#8, 0x64#8, 0x65#8, 0x66#8, 0x67#8, 0xF0#8, 0xF2#8, 0xF3#8] →
      ∀ t : State, step s = .next t →
        (∀ l' : Latches, t.latches = some l' → l'.ps = l.ps) ∧
        (∀ ins : Instruction, t.response = some (.ok ins) →
          ins.segmentOverride = l.ps.seg ∧ ins.lock = l.ps.lock ∧ ins.rep = l.ps.rep))

/-- A prefix run: the last override and the last repeat prefix win, the size flags are set once, order
changes nothing else. Executing any list of prefix rows from a state with a request in progress answers a
next state in which the segment override is the last one of the run (or the earlier one if the run has
none), the repeat prefix likewise, each of opsz, adsz and lock is set when its prefix occurs in the run
and otherwise unchanged, the cursor is advanced by the number of rows, and nothing else is changed.
(40_prefix_scanner.md R142; 40_prefix_scanner.md R143; 40_prefix_scanner.md R144; 40_prefix_scanner.md
R145; 40_prefix_scanner.md R146; 40_prefix_scanner.md R150). -/
def Obligations.PrefixRunEffect : Prop :=
  ∀ (run : List Instr) (s : State) (l : Latches), (∀ i ∈ run, isPrefixRow i = true) → s.latches = some l →
    execAll run s = .next { s with latches := some { l with
      ps := ⟨(run.filterMap prefixSegment).getLast?.or l.ps.seg, l.ps.opsz || run.contains .prefixOPSIZE,
        l.ps.adsz || run.contains .prefixADDRSIZE, l.ps.lock || run.contains .prefixLOCK,
        (run.filterMap prefixRep).getLast?.or l.ps.rep⟩
      cur := l.cur + run.length } }

/-- The prefix state is what the prefix bytes read so far say. If the bytes of the view from the start offset
up to the first opcode byte (or, while scanning, up to the cursor) are a prefix run that leaves ps, as at
the start of every request, then after a step of a served row that goes on scanning the same holds of the
new latches. (40_prefix_scanner.md R140; 40_prefix_scanner.md R141; 40_prefix_scanner.md R149;
43_decoder.md R240). -/
def Obligations.PrefixStateIsWhatWasRead : Prop :=
  (∀ r : Request, prefixRun ((r.view.bytesFrom r.offset r.offset)) PrefixState.start =
      some (Latches.start r).ps) ∧
    (∀ (s t : State) (l l' : Latches), Inv s → Serving s l → step s = .next t → t.latches = some l' →
      t.response = none →
      prefixRun (l.req.view.bytesFrom l.req.offset l.opcodeAt) PrefixState.start = some l.ps →
      prefixRun (l'.req.view.bytesFrom l'.req.offset l'.opcodeAt) PrefixState.start = some l'.ps)

/-- The escape 0F ends the scan: widths and opcode offset are latched, one byte is consumed. In every state
in which a row is served and no escape has been read, the escape row answers the next state in which osz
and asz are 32 exactly when is32 differs from the respective override and 16 otherwise, opc_at is the
cursor, the cursor is one further, and nothing else is changed. The values are the spec's; that the
escape row is where they are written is the model's reading (log entry 13). (40_prefix_scanner.md R147;
40_prefix_scanner.md R148; 40_prefix_scanner.md R151; 41_opcode_table.md R161; notes/assumptions/13.md). -/
def Obligations.EscapeRow : Prop :=
  ∀ (s : State) (l : Latches), Serving s l → l.opcAt = none →
    exec .escape0F s = .next { s with latches := some { l with
      osz := some (if l.req.is32 ≠ l.ps.opsz then .s32 else .s16)
      asz := some (if l.req.is32 ≠ l.ps.adsz then .s32 else .s16)
      opcAt := some l.cur
      cur := l.cur + 1 } }

/-- Every Instruction reports the effective widths and the recorded prefixes. Whatever row a step serves: if
its next state holds an Instruction, operandSizeAttr is true exactly when is32 differs from ps.opsz,
addressSizeAttr exactly when is32 differs from ps.adsz, the latches osz and asz are the same widths, and
segmentOverride, lock and rep are those of ps. (40_prefix_scanner.md R147; 40_prefix_scanner.md R148;
10_state.md R50; 43_decoder.md R241; 43_decoder.md R242). -/
def Obligations.AttributesReported : Prop :=
  ∀ (s t : State) (l : Latches) (ins : Instruction), Serving s l → step s = .next t →
    t.response = some (.ok ins) →
    ins.operandSizeAttr = (l.req.is32 != l.ps.opsz) ∧ ins.addressSizeAttr = (l.req.is32 != l.ps.adsz) ∧
    ins.segmentOverride = l.ps.seg ∧ ins.lock = l.ps.lock ∧ ins.rep = l.ps.rep ∧
    ∃ l' : Latches, t.latches = some l' ∧
      l'.osz = some (if l.req.is32 ≠ l.ps.opsz then .s32 else .s16) ∧
      l'.asz = some (if l.req.is32 ≠ l.ps.adsz then .s32 else .s16)

/-- A key with no entry fails InvalidOpcode at the first opcode byte, with the key as its bytes. For every
configured table and every key without an entry in it, the step that reads the key answers InvalidOpcode
with field opcode, at the offset of the first opcode byte and the key as the offending bytes, whatever
follows, and nothing else is changed but that the latches are discarded. (41_opcode_table.md R163;
60_exceptions.md R901). -/
def Obligations.NoEntryFails : Prop :=
  ∀ (s : State) (l : Latches) (k : Key) (rest : List Byte), Serving s l → KeyAt s l k rest →
    s.opcodeTable.find k = none →
    step s = .next (failed s l .invalidOpcode l.opcodeAt .opcode k.bytes)

/-- The rows that answer a failure: the unassigned opcodes and the x87 escapes. For every state with a
request in progress: the row of an unassigned one-byte or two-byte opcode answers the next state with
InvalidOpcode, and the row of the escapes D8 to DF the next state with UnsupportedAddressingMode, each
with field opcode, at the offset of the first opcode byte and the key as its bytes, with nothing read
after the opcode bytes and nothing else changed but that the latches are discarded. (48_onebyte_E0_FF.md
R669; 49_twobyte_0F.md R670; 60_exceptions.md R901; 47_onebyte_D0_DF.md R535; 42_addressing_resolver.md
R213; 60_exceptions.md R903). -/
def Obligations.FailingRows : Prop :=
  ∀ (s : State) (l : Latches), s.latches = some l →
    (∀ b : Byte, exec (.unassignedOneByte b) s =
      .next (failed s l .invalidOpcode l.opcodeAt .opcode [b])) ∧
    (∀ b : Byte, exec (.unassignedTwoByte b) s =
      .next (failed s l .invalidOpcode l.opcodeAt .opcode [0x0F#8, b])) ∧
    (∀ r : BitVec 3, exec (.esc_D8 r) s = .next (failed s l .unsupportedAddressingMode l.opcodeAt .opcode
      [0xD8#8 + r.setWidth 8]))

/-- The keys with no entry in the default table. A one-byte key has no entry in the default table exactly
when it is D6, F1, a prefix byte or 0F; a two-byte key has none exactly when its second byte is in one of
the ranges R670 lists. (48_onebyte_E0_FF.md R669; 49_twobyte_0F.md R670; 41_opcode_table.md R167). -/
def Obligations.UnassignedKeys : Prop :=
  (∀ b : Byte, defaultTable.find (.one b) = none ↔ (b ∈ [0xD6#8, 0xF1#8] ∨ b ∈ scannerBytes)) ∧
    (∀ b : Byte, defaultTable.find (.two b) = none ↔
      ∃ r ∈ ([(0x04, 0x05), (0x07, 0x1F), (0x25, 0x25), (0x27, 0x7F), (0xA2, 0xA2), (0xA6, 0xA7),
        (0xAA, 0xAA), (0xAE, 0xAE), (0xB0, 0xB1), (0xB8, 0xB9), (0xC0, 0xFF)] : List (Nat × Nat)),
        r.1 ≤ b.toNat ∧ b.toNat ≤ r.2)

/-- A group: the reg field of the next byte selects the slot; an empty slot and a missing byte fail. For
every configured table and every key whose entry is a group: with no byte after the key the step fails
TruncatedInstruction at field modrm; with a byte whose reg field selects an empty slot it fails
InvalidOpcode with the key and that byte; with one that selects a descriptor, an Instruction the step
gives carries that descriptor. In a table that R168 forbids, a slot that a short group does not have
counts as empty: the model's choice (log entry 9). (41_opcode_table.md R162; 41_opcode_table.md R166;
60_exceptions.md R901; 60_exceptions.md R902; notes/assumptions/9.md). -/
def Obligations.GroupResolution : Prop :=
  ∀ (s : State) (l : Latches) (k : Key) (slots : List (Option OpcodeDescriptor)), Serving s l →
    s.opcodeTable.find k = some (.group slots) →
    (KeyAt s l k [] →
      step s = .next (failed s l .truncatedInstruction (l.cur + 1) .modrm [])) ∧
    (∀ (m : Byte) (more : List Byte), KeyAt s l k (m :: more) →
      (slots[(m.extractLsb' 3 3).toNat]?.join = none →
        step s = .next (failed s l .invalidOpcode l.opcodeAt .opcode (k.bytes ++ [m]))) ∧
      (∀ (d : OpcodeDescriptor) (t : State) (ins : Instruction),
        slots[(m.extractLsb' 3 3).toNat]? = some (some d) → step s = .next t →
        t.response = some (.ok ins) → ins.opcodeDescriptor = d))

/-- The default table satisfies R168; its extension groups and their slots. Every key of the default table
occurs once and is a key of R31, every descriptor meets the conditions of R168 and every group has eight
slots; the names at the slots of every group are those listed, an empty string where the slot is empty.
(41_opcode_table.md R168; 10_state.md R31; 30_encoding.md R106; 41_opcode_table.md R162). -/
def Obligations.DefaultTableGroups : Prop :=
  defaultTable.wellFormed = true ∧
    defaultTable.filterMap (fun e => match e with
      | (k, .group slots) => some (k, slots.map fun o => match o with | some d => d.name | none => "")
      | (_, .desc _) => none) =
    [(.one 0x80#8, ["ADD", "OR", "ADC", "SBB", "AND", "SUB", "XOR", "CMP"]),
      (.one 0x81#8, ["ADD", "OR", "ADC", "SBB", "AND", "SUB", "XOR", "CMP"]),
      (.one 0x82#8, ["ADD", "OR", "ADC", "SBB", "AND", "SUB", "XOR", "CMP"]),
      (.one 0x83#8, ["ADD", "OR", "ADC", "SBB", "AND", "SUB", "XOR", "CMP"]),
      (.one 0x8F#8, ["POP", "", "", "", "", "", "", ""]),
      (.one 0xC0#8, ["ROL", "ROR", "RCL", "RCR", "SHL", "SHR", "", "SAR"]),
      (.one 0xC1#8, ["ROL", "ROR", "RCL", "RCR", "SHL", "SHR", "", "SAR"]),
      (.one 0xC6#8, ["MOV", "", "", "", "", "", "", ""]),
      (.one 0xC7#8, ["MOV", "", "", "", "", "", "", ""]),
      (.one 0xD0#8, ["ROL", "ROR", "RCL", "RCR", "SHL", "SHR", "", "SAR"]),
      (.one 0xD1#8, ["ROL", "ROR", "RCL", "RCR", "SHL", "SHR", "", "SAR"]),
      (.one 0xD2#8, ["ROL", "ROR", "RCL", "RCR", "SHL", "SHR", "", "SAR"]),
      (.one 0xD3#8, ["ROL", "ROR", "RCL", "RCR", "SHL", "SHR", "", "SAR"]),
      (.one 0xF6#8, ["TEST", "", "NOT", "NEG", "MUL", "IMUL", "DIV", "IDIV"]),
      (.one 0xF7#8, ["TEST", "", "NOT", "NEG", "MUL", "IMUL", "DIV", "IDIV"]),
      (.one 0xFE#8, ["INC", "DEC", "", "", "", "", "", ""]),
      (.one 0xFF#8, ["INC", "DEC", "CALL", "CALLF", "JMP", "JMPF", "PUSH", ""]),
      (.two 0x00#8, ["SLDT", "STR", "LLDT", "LTR", "VERR", "VERW", "", ""]),
      (.two 0x01#8, ["SGDT", "SIDT", "LGDT", "LIDT", "SMSW", "", "LMSW", ""]),
      (.two 0xBA#8, ["", "", "", "", "BT", "BTS", "BTR", "BTC"])]

/-- A descriptor with an Fpu spec fails UnsupportedAddressingMode before any further byte is read. For every
configured table, if the final descriptor has an Fpu spec the step answers UnsupportedAddressingMode with
field opcode, at the offset of the first opcode byte and the key as its bytes, whatever bytes follow.
(R165). -/
def Obligations.UnsupportedFirst : Prop :=
  ∀ (s : State) (l : Latches) (k : Key) (rest : List Byte) (d : OpcodeDescriptor), Serving s l →
    KeyAt s l k rest → FinalDescriptor s.opcodeTable k rest d → Spec.fpu ∈ d.specs →
    step s = .next (failed s l .unsupportedAddressingMode l.opcodeAt .opcode k.bytes)

/-- Lookup is the same for every operand and address size. For every table, map and bytes, two decodes that
differ only in the widths and both succeed give the same key and the same descriptor. (41_opcode_table.md
R169). -/
def Obligations.KeyIndependentOfWidths : Prop :=
  ∀ (t : OpcodeTable) (m : OpMap) (a a' : Attrs) (bs r r' : List Byte) (d d' : Decoded),
    decodeRow t m a bs = .ok (d, r) → decodeRow t m a' bs = .ok (d', r') →
    d.keyFields.1 = d'.keyFields.1 ∧ d.descriptor = d'.descriptor

/-- S-class: six segment registers by number; 6 and 7 fail before the memory part. An S operand names ES, CS,
SS, DS, FS, GS for reg 0 to 5; for every configured table, a descriptor with an S spec (and no
unsupported one) whose ModRM byte has reg 6 or 7 fails InvalidOpcode with the key and the ModRM byte as
its bytes, whatever follows that byte. (R198). -/
def Obligations.SegmentRegisterOperand : Prop :=
  (∀ (c : Ctx) (t : OpType) (f : Field) (m : ModRM), c.regs = RegisterTable.fixed → c.modrm = some m →
      m.reg.toNat < 6 → ∃ r, [SegReg.es, .cs, .ss, .ds, .fs, .gs][m.reg.toNat]? = some r ∧
        (resolve c (.S t) f).reg = some (.seg r)) ∧
    (∀ (s : State) (l : Latches) (k : Key) (d : OpcodeDescriptor) (t : OpType) (m : Byte)
      (more : List Byte), Serving s l → KeyAt s l k (m :: more) →
      FinalDescriptor s.opcodeTable k (m :: more) d → Spec.fpu ∉ d.specs → Spec.S t ∈ d.specs →
      (m.extractLsb' 3 3 = 6#3 ∨ m.extractLsb' 3 3 = 7#3) →
      step s = .next (failed s l .invalidOpcode l.opcodeAt .opcode (k.bytes ++ [m])))

/-- MOV to and from a segment register: the Instruction for reg 0 to 5, InvalidOpcode for 6 and 7. The two
rows with an S-class operand answer their Instruction when reg is below 6 and InvalidOpcode with the key
and the ModRM byte when it is 6 or 7, for every form of the rm operand. (45_onebyte_60_8F.md R435;
45_onebyte_60_8F.md R437; 42_addressing_resolver.md R198). -/
def Obligations.SegmentRows : Prop :=
  ∀ (s : State) (l : Latches) (reg : BitVec 3) (e : Rm), Serving s l →
    (reg.toNat < 6 →
      exec (.mov_8C reg e) s = .next (answered s l (.one 0x8C#8) "MOV" [.E .w, .S .w] (.block reg e [])) ∧
      exec (.mov_8E reg e) s = .next (answered s l (.one 0x8E#8) "MOV" [.S .w, .E .w] (.block reg e []))) ∧
    (6 ≤ reg.toNat →
      exec (.mov_8C reg e) s = .next (failed s l .invalidOpcode l.opcodeAt .opcode
        [0x8C#8, e.mod ++ reg ++ e.rm]) ∧
      exec (.mov_8E reg e) s = .next (failed s l .invalidOpcode l.opcodeAt .opcode
        [0x8E#8, e.mod ++ reg ++ e.rm]))

/-- A view that ends where an opcode byte is due fails TruncatedInstruction. In every state in which a row is
served, with no byte left below the limit at the cursor, the step answers TruncatedInstruction with field
opcode, at the cursor, with no bytes; after the escape the cursor is one past the first opcode byte.
(40_prefix_scanner.md R140; 41_opcode_table.md R161; 60_exceptions.md R902). -/
def Obligations.EmptyFetchTruncates : Prop :=
  ∀ (s : State) (l : Latches), Serving s l → s.fetch l = [] →
    step s = .next (failed s l .truncatedInstruction l.cur .opcode []) ∧
    (∀ o : Nat, l.opcAt = some o → l.cur = o + 1)

/-- What every failure records, that nothing else of the request is kept, and which field a row is cut off
in. Whatever row a step serves from a state with Inv: if its next state holds a failure, the offset is
the request offset, no latch is left, the request and everything persistent is unchanged, and:
InvalidOpcode has field opcode, at the first opcode byte, with the key at the cursor as its bytes where
that has no entry, or with the key and the byte after it where that byte selects an empty group slot or
no segment register; UnsupportedAddressingMode has field opcode, at the first opcode byte, with the key
at the cursor as its bytes, whose descriptor has an Fpu spec; TruncatedInstruction has the bytes of the
view from at to the limit, and is at the cursor with field opcode where no byte is left, one past it with
field modrm where the key is a group and no byte follows, and otherwise at the start of the first field
of the row that the bytes do not hold whole, with that field. And whenever a field of a row is cut off
so, the step answers that failure, with the part of the field present, unless an S-class operand names no
segment register. A slot that a short group does not have counts as empty: the model's choice (log entry
9). (60_exceptions.md R900; 60_exceptions.md R901; 60_exceptions.md R902; 60_exceptions.md R903;
60_exceptions.md R904; 60_exceptions.md R905; 43_decoder.md R246; 30_encoding.md R90; 30_encoding.md
R124; 42_addressing_resolver.md R184; notes/assumptions/9.md). -/
def Obligations.FailureRecords : Prop :=
  (∀ (s t : State) (l : Latches) (f : Failure), Inv s → Serving s l → step s = .next t →
      t.response = some (.err f) →
      f.offset = l.req.offset ∧ t = { s with response := some (.err f), latches := none } ∧
      (f.kind = .invalidOpcode → f.field = .opcode ∧ f.atOffset = l.opcodeAt ∧
        ∃ (k : Key) (rest : List Byte), KeyAt s l k rest ∧
          ((s.opcodeTable.find k = none ∧ f.bytes = k.bytes) ∨
            ∃ (m : Byte) (more : List Byte), rest = m :: more ∧ f.bytes = k.bytes ++ [m] ∧
              ((∃ slots, s.opcodeTable.find k = some (.group slots) ∧
                  slots[(m.extractLsb' 3 3).toNat]?.join = none) ∨
                ∃ d, FinalDescriptor s.opcodeTable k rest d ∧ (∃ ty, Spec.S ty ∈ d.specs) ∧
                  6 ≤ (m.extractLsb' 3 3).toNat))) ∧
      (f.kind = .unsupportedAddressingMode → f.field = .opcode ∧ f.atOffset = l.opcodeAt ∧
        ∃ (k : Key) (rest : List Byte) (d : OpcodeDescriptor), KeyAt s l k rest ∧
          FinalDescriptor s.opcodeTable k rest d ∧ Spec.fpu ∈ d.specs ∧ f.bytes = k.bytes) ∧
      (f.kind = .truncatedInstruction → f.bytes = l.req.bytesAt s.params f.atOffset ∧
        ((s.fetch l = [] ∧ f.field = .opcode ∧ f.atOffset = l.cur) ∨
          (∃ (k : Key) (slots : List (Option OpcodeDescriptor)), KeyAt s l k [] ∧
            s.opcodeTable.find k = some (.group slots) ∧ f.field = .modrm ∧ f.atOffset = l.cur + 1) ∨
          ∃ (k : Key) (rest : List Byte) (d : OpcodeDescriptor) (n p : Nat), KeyAt s l k rest ∧
            FinalDescriptor s.opcodeTable k rest d ∧ Spec.fpu ∉ d.specs ∧
            FirstCut (rowFields l.attrs (isGroup s.opcodeTable k) d rest) rest f.field n p ∧
            f.atOffset = l.cur + 1 + p))) ∧
    (∀ (s : State) (l : Latches) (k : Key) (rest : List Byte) (d : OpcodeDescriptor) (field : FailField)
      (n p : Nat), Serving s l → KeyAt s l k rest → FinalDescriptor s.opcodeTable k rest d →
      Spec.fpu ∉ d.specs →
      (∀ m more, rest = m :: more → (∃ ty, Spec.S ty ∈ d.specs) → (m.extractLsb' 3 3).toNat < 6) →
      FirstCut (rowFields l.attrs (isGroup s.opcodeTable k) d rest) rest field n p →
      step s = .next (failed s l .truncatedInstruction (l.cur + 1 + p) field (rest.drop p)))

/-- REGISTER_TABLE: names by number, widths by column, 54 registers. Each column of the fixed table holds the
names of R33 in number order, the widths are 8, 16, 32, 16, 32, 32, 32 by column, and there are 54
registers in all. (R33). -/
def Obligations.RegisterTableContents : Prop :=
  RegisterTable.fixed.gpr8.map regName = ["AL", "CL", "DL", "BL", "AH", "CH", "DH", "BH"] ∧
    RegisterTable.fixed.gpr16.map regName = ["AX", "CX", "DX", "BX", "SP", "BP", "SI", "DI"] ∧
    RegisterTable.fixed.gpr32.map regName = ["EAX", "ECX", "EDX", "EBX", "ESP", "EBP", "ESI", "EDI"] ∧
    RegisterTable.fixed.sreg.map (fun r => regName (.seg r)) = ["ES", "CS", "SS", "DS", "FS", "GS"] ∧
    RegisterTable.fixed.cr.map regName = ["CR0", "CR1", "CR2", "CR3", "CR4", "CR5", "CR6", "CR7"] ∧
    RegisterTable.fixed.dr.map regName = ["DR0", "DR1", "DR2", "DR3", "DR4", "DR5", "DR6", "DR7"] ∧
    RegisterTable.fixed.tr.map regName = ["TR0", "TR1", "TR2", "TR3", "TR4", "TR5", "TR6", "TR7"] ∧
    (∀ r ∈ RegisterTable.fixed.gpr8, regWidth r = 8) ∧ (∀ r ∈ RegisterTable.fixed.gpr16, regWidth r = 16) ∧
    (∀ r ∈ RegisterTable.fixed.gpr32, regWidth r = 32) ∧ (∀ r : SegReg, regWidth (.seg r) = 16) ∧
    (∀ r ∈ RegisterTable.fixed.cr ++ RegisterTable.fixed.dr ++ RegisterTable.fixed.tr, regWidth r = 32) ∧
    RegisterTable.fixed.registers.length = 54

/-- Two registers are equal exactly when their names are, and the table holds them all. Two Register
references are equal exactly when their names are equal; every register is in the table. (10_state.md
R34; 10_state.md R33). -/
def Obligations.RegistersEqualByName : Prop :=
  (∀ a b : Reg, a = b ↔ regName a = regName b) ∧ (∀ r : Reg, r ∈ RegisterTable.fixed.registers)

/-- Reg(type, n): the 8-, 16- or 32-bit column by type and operand size. With the fixed table, Reg selects
the 8-bit column for b, the 16-bit for w, the 32-bit for d, and for v, p, a and s the 16-bit column at
operand size 16 and the 32-bit at 32, for every n; a bare M selects as v. (42_addressing_resolver.md
R214; 30_encoding.md R123). -/
def Obligations.RegisterSelection : Prop :=
  ∀ (c : Ctx) (n : BitVec 3), c.regs = RegisterTable.fixed →
    regOf c .b n = [Reg.al, .cl, .dl, .bl, .ah, .ch, .dh, .bh][n.toNat]? ∧
    regOf c .w n = [Reg.ax, .cx, .dx, .bx, .sp, .bp, .si, .di][n.toNat]? ∧
    regOf c .d n = [Reg.eax, .ecx, .edx, .ebx, .esp, .ebp, .esi, .edi][n.toNat]? ∧
    (∀ t ∈ [OpType.v, .p, .a, .s], regOf c t n =
      if c.osz = .s16 then [Reg.ax, .cx, .dx, .bx, .sp, .bp, .si, .di][n.toNat]?
      else [Reg.eax, .ecx, .edx, .ebx, .esp, .ebp, .esi, .edi][n.toNat]?) ∧
    (∀ f : Field, resolve c (.M none) f = resolve c (.E .v) f)

/-- The 16-bit memory part, row by row. For every mod below 11, every rm and every displacement value: base
and index are those of BASE16, or none for mod 00 with rm 110; the scale is 1; the displacement has 0, 1
or 2 bytes by mod, and 2 for mod 00 with rm 110. (42_addressing_resolver.md R185; 30_encoding.md R96). -/
def Obligations.MemoryPart16 : Prop :=
  ∀ (regs : RegisterTable) (mod : BitVec 2) (reg rm : BitVec 3) (sib : Option Sib) (v : Nat), mod ≠ 3#2 →
    memoryPart regs .s16 ⟨mod, reg, rm⟩ sib v (dispSize16 mod rm) =
      if mod = 0#2 ∧ rm = 6#3 then ⟨none, none, 1, v, 2⟩
      else ⟨[some Reg.bx, some .bx, some .bp, some .bp, some .si, some .di, some .bp, some .bx].getD rm.toNat none,
        [some Reg.si, some .di, some .si, some .di, none, none, none, none].getD rm.toNat none, 1,
        [0, if v < 128 then (v : Int) else v - 256, (v : Int)].getD mod.toNat 0, [0, 1, 2].getD mod.toNat 0⟩

/-- The 32-bit memory part, without and with a SIB byte. For every mod below 11 and every displacement value.
Without a SIB byte: the base is the 32-bit register rm, or none for mod 00 with rm 101; no index; scale
1; the displacement has 0, 1 or 4 bytes by mod, and 4 for mod 00 with rm 101. With one: no index and
scale 1 for index 100, else the 32-bit register index and scale 2^ss; no base and a 4-byte displacement
for base 101 with mod 00, else the 32-bit register base and 0, 1 or 4 bytes by mod.
(42_addressing_resolver.md R186; 42_addressing_resolver.md R187; 30_encoding.md R97; 30_encoding.md R98). -/
def Obligations.MemoryPart32 : Prop :=
  (∀ (mod : BitVec 2) (reg rm : BitVec 3) (v : Nat), mod ≠ 3#2 → rm ≠ 4#3 →
    memoryPart RegisterTable.fixed .s32 ⟨mod, reg, rm⟩ none v (dispSize32 mod rm) =
      if mod = 0#2 ∧ rm = 5#3 then ⟨none, none, 1, v, 4⟩
      else ⟨[Reg.eax, .ecx, .edx, .ebx, .esp, .ebp, .esi, .edi][rm.toNat]?, none, 1,
        [0, if v < 128 then (v : Int) else v - 256, (v : Int)].getD mod.toNat 0, [0, 1, 4].getD mod.toNat 0⟩) ∧
    (∀ (mod : BitVec 2) (reg : BitVec 3) (b : Byte) (v : Nat), mod ≠ 3#2 →
    memoryPart RegisterTable.fixed .s32 ⟨mod, reg, 4#3⟩ (some (Sib.ofByte b)) v
        (dispSize32 mod (Sib.ofByte b).base) =
      ⟨if b.extractLsb' 0 3 = 5#3 ∧ mod = 0#2 then none
        else [Reg.eax, .ecx, .edx, .ebx, .esp, .ebp, .esi, .edi][(b.extractLsb' 0 3).toNat]?,
      if b.extractLsb' 3 3 = 4#3 then none
        else [Reg.eax, .ecx, .edx, .ebx, .esp, .ebp, .esi, .edi][(b.extractLsb' 3 3).toNat]?,
      if b.extractLsb' 3 3 = 4#3 then 1 else [1, 2, 4, 8].getD (b.extractLsb' 6 2).toNat 0,
      if b.extractLsb' 0 3 = 5#3 ∧ mod = 0#2 then (v : Int)
        else [0, if v < 128 then (v : Int) else v - 256, (v : Int)].getD mod.toNat 0,
      if b.extractLsb' 0 3 = 5#3 ∧ mod = 0#2 then 4 else [0, 1, 4].getD mod.toNat 0⟩)

/-- Disp(d, n): one byte sign-extended, two and four bytes unsigned. For n = 1 the value is the byte read as
two's complement, in -128 to 127; for n = 2 or 4 it is the unsigned value, in 0 to 2^(8n) - 1. (R188). -/
def Obligations.DisplacementValue : Prop :=
  (∀ b : BitVec 8, dispValue b.toNat 1 = b.toInt ∧ -128 ≤ dispValue b.toNat 1 ∧ dispValue b.toNat 1 ≤ 127) ∧
    (∀ v : BitVec 16, dispValue v.toNat 2 = v.toNat ∧ dispValue v.toNat 2 ≤ 2 ^ 16 - 1) ∧
    (∀ v : BitVec 32, dispValue v.toNat 4 = v.toNat ∧ dispValue v.toNat 4 ≤ 2 ^ 32 - 1)

/-- Seg(spec): an override wins, string destinations are ES, stack bases default to SS, all else DS. For
every operand method: a Y operand has ES whatever the override; every other operand has the override when
one is present; without one an E or M memory operand has SS when its base is BP, EBP or ESP and DS
otherwise, and every other operand has DS. (R210). -/
def Obligations.SegmentResolution : Prop :=
  (∀ (c : Ctx) (t : OpType) (f : Field), (resolve c (.Y t) f).segreg = .es) ∧
    (∀ (c : Ctx) (sp : Spec) (f : Field) (r : SegReg), (∀ t, sp ≠ .Y t) → c.seg = some r →
      (resolve c sp f).segreg = r) ∧
    (∀ (c : Ctx) (sp : Spec) (f : Field) (m : ModRM) (mo : MemoryOperand), c.seg = none →
      ((∃ t, sp = .E t) ∨ ∃ t, sp = .M t) → c.modrm = some m → m.mod ≠ 3#2 → c.mem = some mo →
      (resolve c sp f).segreg =
        if mo.base ∈ [some Reg.bp, some .ebp, some .esp] then .ss else .ds) ∧
    (∀ (c : Ctx) (sp : Spec) (f : Field), c.seg = none → (∀ t, sp ≠ .Y t) →
      (((∃ t, sp = .E t) ∨ ∃ t, sp = .M t) → ∃ m, c.modrm = some m ∧ m.mod = 3#2) →
      (resolve c sp f).segreg = .ds)

/-- The operands read from the ModRM byte: E, M, G, R, C, D, T. With the fixed register table: an E or M
operand is the register named by rm when mod is 11, and otherwise the memory operand with base, index,
scale, displacement and size of the memory part; G, C, D and T name the register in the reg field; R
names the 32-bit register in the rm field whatever mod is; every field not named has its default.
(42_addressing_resolver.md R181; 42_addressing_resolver.md R190; 42_addressing_resolver.md R193;
42_addressing_resolver.md R194; 42_addressing_resolver.md R195; 42_addressing_resolver.md R196;
42_addressing_resolver.md R197; 42_addressing_resolver.md R199; 42_addressing_resolver.md R212). -/
def Obligations.ModRMOperands : Prop :=
  ∀ (c : Ctx) (m : ModRM) (t : OpType) (f : Field), c.regs = RegisterTable.fixed → c.modrm = some m →
    (m.mod = 3#2 →
      resolve c (.E t) f = ⟨regOf c t m.rm, none, 1, 0, 0, 0, 0, false, c.seg.getD .ds⟩ ∧
      resolve c (.M (some t)) f = ⟨regOf c t m.rm, none, 1, 0, 0, 0, 0, false, c.seg.getD .ds⟩ ∧
      resolve c (.M none) f = ⟨regOf c .v m.rm, none, 1, 0, 0, 0, 0, false, c.seg.getD .ds⟩) ∧
    (m.mod ≠ 3#2 → ∀ mo : MemoryOperand, c.mem = some mo →
      ∀ sp ∈ [Spec.E t, .M (some t), .M none], resolve c sp f =
        ⟨mo.base, mo.index, mo.scale, mo.disp, mo.dsize, 0, 0, true,
          c.seg.getD (if mo.base ∈ [some Reg.bp, some .ebp, some .esp] then .ss else .ds)⟩) ∧
    resolve c (.G t) f = ⟨regOf c t m.reg, none, 1, 0, 0, 0, 0, false, c.seg.getD .ds⟩ ∧
    resolve c (.R t) f = ⟨[Reg.eax, .ecx, .edx, .ebx, .esp, .ebp, .esi, .edi][m.rm.toNat]?, none, 1, 0, 0, 0, 0, false, c.seg.getD .ds⟩ ∧
    resolve c (.C t) f = ⟨[Reg.cr0, .cr1, .cr2, .cr3, .cr4, .cr5, .cr6, .cr7][m.reg.toNat]?, none, 1, 0, 0, 0, 0, false, c.seg.getD .ds⟩ ∧
    resolve c (.D t) f = ⟨[Reg.dr0, .dr1, .dr2, .dr3, .dr4, .dr5, .dr6, .dr7][m.reg.toNat]?, none, 1, 0, 0, 0, 0, false, c.seg.getD .ds⟩ ∧
    resolve c (.T t) f = ⟨[Reg.tr0, .tr1, .tr2, .tr3, .tr4, .tr5, .tr6, .tr7][m.reg.toNat]?, none, 1, 0, 0, 0, 0, false, c.seg.getD .ds⟩

/-- The operands read from trailing fields: O, I and J, unsigned and little-endian, and the sizes of the
fields. A direct offset is a memory operand with the unsigned value and size of its field and no
register; an immediate or relative offset has the unsigned value and size of its field and is no memory
operand; the fields of 1, 2 and 4 bytes have the little-endian value of their bytes; Ib, Ibs and Jb have
1 byte, Iw 2, Iv and Jv osz/8, Ob and Ov asz/8; no other spec has a trailing field.
(42_addressing_resolver.md R200; 42_addressing_resolver.md R201; 42_addressing_resolver.md R202;
42_addressing_resolver.md R203; 20_memory.md R72; 30_encoding.md R124). -/
def Obligations.TrailingOperands : Prop :=
  ∀ (a : Attrs) (c : Ctx) (t : OpType) (f : Field),
    resolve c (.O t) f = ⟨none, none, 1, f.value, f.size, 0, 0, true, c.seg.getD .ds⟩ ∧
    resolve c (.I t) f = ⟨none, none, 1, 0, 0, f.value, f.size, false, c.seg.getD .ds⟩ ∧
    resolve c (.J t) f = ⟨none, none, 1, 0, 0, f.value, f.size, false, c.seg.getD .ds⟩ ∧
    (∀ b0 b1 b2 b3 : Byte, ∀ rest : List Byte,
      (takeField 1 (b0 :: rest)).map (fun x => x.1.value) = some b0.toNat ∧
      (takeField 2 (b0 :: b1 :: rest)).map (fun x => x.1.value) = some (b0.toNat + 256 * b1.toNat) ∧
      (takeField 4 (b0 :: b1 :: b2 :: b3 :: rest)).map (fun x => x.1.value) =
        some (b0.toNat + 256 * b1.toNat + 65536 * b2.toNat + 16777216 * b3.toNat)) ∧
    (∀ sp ∈ [Spec.I .b, .I .bs, .J .b], sp.trailing? a = some (1, .immediate)) ∧
    Spec.trailing? a (.I .w) = some (2, .immediate) ∧
    (∀ sp ∈ [Spec.I .v, .J .v], sp.trailing? a = some (if a.osz = .s16 then 2 else 4, .immediate)) ∧
    (∀ sp ∈ [Spec.O .b, .O .v], sp.trailing? a = some (if a.asz = .s16 then 2 else 4, .offset)) ∧
    (∀ sp : Spec, (∀ t, sp ≠ .I t) → (∀ t, sp ≠ .J t) → (∀ t, sp ≠ .O t) → sp.trailing? a = none)

/-- The operands that read no byte: 1, fixed registers, Z, X and Y. The constant is an immediate 1 of size 1;
AL, CL, DX and the segment registers are themselves at every size and eAX is AX or EAX by the operand
size; Z names the register in the low three bits of the last opcode byte; X is a pointer through SI or
ESI and Y through DI or EDI by the address size, Y always in ES. (42_addressing_resolver.md R205;
42_addressing_resolver.md R206; 42_addressing_resolver.md R207; 42_addressing_resolver.md R208;
42_addressing_resolver.md R209; 30_encoding.md R125). -/
def Obligations.ImplicitOperands : Prop :=
  ∀ (c : Ctx) (t : OpType) (f : Field),
    resolve c .one f = ⟨none, none, 1, 0, 0, 1, 1, false, c.seg.getD .ds⟩ ∧
    resolve c (.fixed .al) f = ⟨some .al, none, 1, 0, 0, 0, 0, false, c.seg.getD .ds⟩ ∧
    resolve c (.fixed .cl) f = ⟨some .cl, none, 1, 0, 0, 0, 0, false, c.seg.getD .ds⟩ ∧
    resolve c (.fixed .dx) f = ⟨some .dx, none, 1, 0, 0, 0, 0, false, c.seg.getD .ds⟩ ∧
    resolve c (.fixed .eAX) f = ⟨some (if c.osz = .s16 then .ax else .eax), none, 1, 0, 0, 0, 0, false, c.seg.getD .ds⟩ ∧
    (∀ r : SegReg, resolve c (.fixed (.seg r)) f = ⟨some (.seg r), none, 1, 0, 0, 0, 0, false, c.seg.getD .ds⟩) ∧
    (∀ b : Byte, c.key = .one b ∨ c.key = .two b →
      resolve c (.Z t) f = ⟨regOf c t (b.extractLsb' 0 3), none, 1, 0, 0, 0, 0, false, c.seg.getD .ds⟩) ∧
    resolve c (.X t) f = ⟨some (if c.asz = .s16 then .si else .esi), none, 1, 0, 0, 0, 0, true, c.seg.getD .ds⟩ ∧
    resolve c (.Y t) f = ⟨some (if c.asz = .s16 then .di else .edi), none, 1, 0, 0, 0, 0, true, .es⟩

/-- Every operand descriptor of every Instruction stays in the domains of R51. Whatever row a step serves,
every operand of the Instruction it gives has a scale of 1, 2, 4 or 8, displacement and immediate sizes
of 0, 1, 2 or 4, a zero value where the size is zero, and an immediate that fits its size. (10_state.md
R51; 42_addressing_resolver.md R181; 42_addressing_resolver.md R202). -/
def Obligations.OperandDomains : Prop :=
  ∀ (s t : State) (ins : Instruction), step s = .next t → s.response = none →
    t.response = some (.ok ins) → ∀ op ∈ ins.operands,
    op.scale ∈ [1, 2, 4, 8] ∧ op.displacementSize ∈ [0, 1, 2, 4] ∧ op.immedSize ∈ [0, 1, 2, 4] ∧
    (op.displacementSize = 0 → op.displacement = 0) ∧ (op.immedSize = 0 → op.immed = 0) ∧
    op.immed < 256 ^ op.immedSize

/-- One operand per spec in declared order, the rest null. Whatever row a step serves, an Instruction it
gives has operand1, operand2 and operand3 exactly for the first, second and third spec of its descriptor:
a descriptor with no specs has all three null. The operand of a spec is that spec resolved at the
effective widths of the request from the key, the ModRM byte and the memory part of the row; an O, I or J
spec is resolved from the trailing field of its own, the trailing fields belonging to those specs in
declared order. (43_decoder.md R247; 43_decoder.md R241; 43_decoder.md R240; 10_state.md R50;
42_addressing_resolver.md R180; 42_addressing_resolver.md R192). -/
def Obligations.OperandCount : Prop :=
  (∀ (s t : State) (ins : Instruction), step s = .next t → s.response = none →
      t.response = some (.ok ins) →
      (ins.operand1.isSome = true ↔ 1 ≤ ins.opcodeDescriptor.specs.length) ∧
      (ins.operand2.isSome = true ↔ 2 ≤ ins.opcodeDescriptor.specs.length) ∧
      (ins.operand3.isSome = true ↔ 3 ≤ ins.opcodeDescriptor.specs.length)) ∧
    (∀ (s t : State) (l : Latches) (row : Decoded) (rest : List Byte) (ins : Instruction), Serving s l →
      decodeRow s.opcodeTable l.opMap l.attrs (s.fetch l) = .ok (row, rest) → step s = .next t →
      t.response = some (.ok ins) →
      row.descriptor = some ins.opcodeDescriptor ∧
      ∀ (i : Nat) (sp : Spec), i < 3 → ins.opcodeDescriptor.specs[i]? = some sp →
        [ins.operand1, ins.operand2, ins.operand3][i]? = some (some (resolve
          ⟨RegisterTable.fixed, effectiveWidth l.req.is32 l.ps.opsz, effectiveWidth l.req.is32 l.ps.adsz,
            l.ps.seg, row.keyFields.1, row.keyFields.2.modrm,
            rowMemory l ins.opcodeDescriptor.specs row.keyFields.2⟩ sp
          (if trails sp
            then row.keyFields.2.trailing.getD ((ins.opcodeDescriptor.specs.take i).countP trails) .absent
            else .absent))))

/-- A step runs the decoded row. In every state in which a row is served: if the bytes at the cursor decode
to a row i of the default table, the step is exec i at that state; if they decode to a row only the
configured table has, it is that row served; if they decode to none, the next state holds the failure.
Nothing stands around exec: the row moves the cursor itself. That a step serves one row is the model's
choice (log entry 1), and so is how a row only the configured table has is served (log entry 8).
(43_decoder.md R240; 43_decoder.md R243; 00_scope.md R8; notes/assumptions/1.md; notes/assumptions/8.md). -/
def Obligations.StepServesTheDecodedRow : Prop :=
  ∀ (s : State) (l : Latches), Serving s l →
    (∀ (i : Instr) (rest : List Byte), decodeRow s.opcodeTable l.opMap l.attrs (s.fetch l) = .ok (.row i, rest) →
      step s = exec i s) ∧
    (∀ (k : Key) (d : OpcodeDescriptor) (f : Fields) (rest : List Byte),
      decodeRow s.opcodeTable l.opMap l.attrs (s.fetch l) = .ok (.configured k d f, rest) →
      step s = serveRow k d f s) ∧
    (∀ e : DecodeError, decodeRow s.opcodeTable l.opMap l.attrs (s.fetch l) = .error e →
      step s = .next (s.decodeFailure l e))

/-- The bytes of a well-formed instruction at the cursor are executed as that instruction. With the default
table, if the bytes at the cursor begin with the encoding of a well-formed instruction i in the map the
request is in, the step is exec i, whatever follows. That a step serves one row is the model's choice
(log entry 1). (30_encoding.md R90; 43_decoder.md R240; 43_decoder.md R245; notes/assumptions/1.md). -/
def Obligations.StepRunsEncodedInstruction : Prop :=
  ∀ (s : State) (l : Latches) (i : Instr) (rest : List Byte), Serving s l → DefaultTables s →
    i.wellFormed ⟨effectiveWidth l.req.is32 l.ps.opsz, effectiveWidth l.req.is32 l.ps.adsz⟩ = true →
    i.opMap = l.opMap → s.fetch l = i.rowBytes ++ rest → step s = exec i s

/-- Decoding an encoded well-formed instruction gives it back. For every pair of widths, every well-formed
instruction of every row and every following bytes, decoding its row bytes in its own map gives the
instruction and the following bytes; decoding its whole encoding gives the same for every instruction but
the escape, which is no whole instruction. (30_encoding.md R90; 43_decoder.md R245). -/
def Obligations.DecodeEncode : Prop :=
  (∀ (a : Attrs) (i : Instr) (rest : List Byte), i.wellFormed a = true →
      decodeRow defaultTable i.opMap a (i.rowBytes ++ rest) = .ok (.row i, rest)) ∧
    (∀ (a : Attrs) (i : Instr) (rest : List Byte), i.wellFormed a = true → i ≠ .escape0F →
      decode a (encode i ++ rest) = .ok (.row i, rest))

/-- Every row the decoder reads is a well-formed instruction and its own encoding. With the default table,
whatever bytes the decoder accepts in a map at any widths are the row bytes of a well-formed instruction
of that map followed by the bytes it leaves; no row is read that is not a row of the table.
(30_encoding.md R90; 41_opcode_table.md R163; 43_decoder.md R245). -/
def Obligations.EncodeDecode : Prop :=
  ∀ (a : Attrs) (m : OpMap) (bs rest : List Byte) (d : Decoded),
    decodeRow defaultTable m a bs = .ok (d, rest) →
    ∃ i : Instr, d = .row i ∧ i.wellFormed a = true ∧ i.opMap = m ∧ bs = i.rowBytes ++ rest

/-- Words written out from the encodings decode to the instructions they stand for. One word of each file of
rows, bit by bit from the spec encoding. (30_encoding.md R94; 30_encoding.md R95; 44_onebyte_00_5F.md
R301; 45_onebyte_60_8F.md R401; 46_onebyte_90_CF.md R492; 47_onebyte_D0_DF.md R513; 48_onebyte_E0_FF.md
R563; 49_twobyte_0F.md R657). -/
def Obligations.DecodedWords : Prop :=
  decode ⟨.s32, .s32⟩ [0x01#8, 0b01010110#8, 0xFC#8] =
      .ok (.row (.add_01 0b010#3 ⟨0b01#2, 0b110#3, none, .f8 0xFC#8⟩), []) ∧
    decode ⟨.s32, .s16⟩ [0x81#8, 0b10000100#8, 0x00#8, 0x01#8, 0x78#8, 0x56#8, 0x34#8, 0x12#8] =
      .ok (.row (.add_81_0 ⟨0b10#2, 0b100#3, none, .f16 0x0100#16⟩ (.f32 0x12345678#32)), []) ∧
    decode ⟨.s16, .s16⟩ [0xC8#8, 0x10#8, 0x00#8, 0x01#8] = .ok (.row (.enter_C8 0x0010#16 0x01#8), []) ∧
    decode ⟨.s16, .s16⟩ [0xD1#8, 0b01100011#8, 0x04#8] =
      .ok (.row (.shl_D1_4 ⟨0b01#2, 0b011#3, none, .f8 0x04#8⟩), []) ∧
    decode ⟨.s16, .s16⟩ [0xF7#8, 0b11000001#8, 0x34#8, 0x12#8] =
      .ok (.row (.test_F7_0 ⟨0b11#2, 0b001#3, none, .absent⟩ (.f16 0x1234#16)), []) ∧
    decode ⟨.s32, .s32⟩ [0x0F#8, 0xB6#8, 0b01000100#8, 0b00100100#8, 0xFF#8] =
      .ok (.row (.movzx_0FB6 0b000#3 ⟨0b01#2, 0b100#3, some ⟨0b00#2, 0b100#3, 0b100#3⟩, .f8 0xFF#8⟩), [])

/-- The length of every Instruction is P + K + B + T. Whatever row a step serves: an Instruction it gives has
the length P + K + B + T, with P the prefix count (first opcode byte minus offset), K the 1 or 2 opcode
bytes of the key, B the bytes of the ModRM block and T those of the trailing fields that were decoded; B
is at most 6; the cursor is at offset + length. (43_decoder.md R244; 42_addressing_resolver.md R191;
10_state.md R45; 41_opcode_table.md R161). -/
def Obligations.LengthParts : Prop :=
  ∀ (s t : State) (l : Latches) (d : Decoded) (rest : List Byte) (ins : Instruction), Serving s l →
    decodeRow s.opcodeTable l.opMap l.attrs (s.fetch l) = .ok (d, rest) → step s = .next t →
    t.response = some (.ok ins) →
    ins.length = (l.opcodeAt - l.req.offset) + d.keyFields.1.bytes.length +
      (d.keyFields.2.modrm.toList.length + d.keyFields.2.sib.toList.length + d.keyFields.2.disp.size) +
      (d.keyFields.2.trailing.map Field.size).sum ∧
    d.keyFields.2.modrm.toList.length + d.keyFields.2.sib.toList.length + d.keyFields.2.disp.size ≤ 6 ∧
    ∃ l' : Latches, t.latches = some l' ∧ l'.cur = l.req.offset + ins.length

/-- The cursor only increases. A step that serves a row and leaves the request in progress or answered with
an Instruction has moved the cursor forward. (10_state.md R45; 43_decoder.md R243). -/
def Obligations.CursorIncreases : Prop :=
  ∀ (s t : State) (l l' : Latches), Serving s l → step s = .next t → t.latches = some l' → l.cur < l'.cur

/-- A request writes nothing but its own response; tables and view are read-only. Every step of an
initialised block leaves the parameters and both tables unchanged, leaves the request at the port (and so
its view) unchanged but for emptying the port when the response is sent, and leaves the snapshot of a
request in progress unchanged. That the parameters are a field of State (log entry 3), that a request
stays at its port while it is served (log entry 1), that sending empties the ports (log entry 7) and that
the latches hold a snapshot (log entry 4) is the model's choice or reading. (43_decoder.md R250;
10_state.md R48; 20_memory.md R80; notes/assumptions/1.md; notes/assumptions/3.md;
notes/assumptions/4.md; notes/assumptions/7.md). -/
def Obligations.NothingElseWritten : Prop :=
  ∀ s t : State, s.initialized = true → step s = .next t →
    t.params = s.params ∧ t.opcodeTable = s.opcodeTable ∧ t.registerTable = s.registerTable ∧
    (t.request = s.request ∨ (s.response.isSome = true ∧ t.request = none)) ∧
    (∀ l l' : Latches, s.latches = some l → t.latches = some l' → l'.req = l.req) ∧
    (∀ p : Response, s.response = some p → t.response = none)

/-- The steps of a request give the response of the procedure Decode(view, offset, is32). From every state
with Inv that is initialised, has a request at the port, no response and no request in progress, the
machine reaches, within a bounded number of steps, a state whose response is the one R240 gives for that
request, parameters and tables, with the request still at the port; no step on the way faults or refuses.
So every request completes. The response is the spec's; how many steps it takes and that the request
stays at its port meanwhile is the model's choice (log entry 1). (43_decoder.md R240; 43_decoder.md R249;
10_state.md R41; 60_exceptions.md R905; notes/assumptions/1.md). -/
def Obligations.StepsFollowTheProcedure : Prop :=
  ∀ (s : State) (r : Request), Inv s → s.initialized = true → s.request = some r → s.response = none →
    s.latches = none →
    ∃ (n : Nat) (t : State), n ≤ r.view.length - r.offset + 2 ∧
      Host.Core.run Sys2Proof.core n s = .next t ∧ t.request = some r ∧
      t.response = some (decodeRequest s.params s.opcodeTable s.registerTable r)

/-- MAX_INSTR_LEN: the request behaves as if the view ended at offset + n. For every table and every
canonical view, the procedure with MAX_INSTR_LEN = some n answers as it does without a limit on the view
cut to its first offset + n bytes; an Instruction it gives is at most n bytes long. (R906). -/
def Obligations.MaxInstrLenCutsTheView : Prop :=
  ∀ (p : Params) (t : OpcodeTable) (regs : RegisterTable) (r : Request) (n : Nat), r.view.wf = true →
    decodeRequest { p with maxInstrLen := some n } t regs r =
      decodeRequest { p with maxInstrLen := none } t regs { r with view := r.view.take (r.offset + n) } ∧
    (∀ ins : Instruction, decodeRequest { p with maxInstrLen := some n } t regs r = .ok ins →
      ins.length ≤ n)

/-- The response depends only on the bytes from the offset on, the mode and the parameters: the same response
at the same offset, the same Instruction at any. Two requests with the same mode whose views hold the
same bytes from their offsets on, whatever stands before and however long the views are, get the same
response when their offsets are equal, and the same Instruction at any offsets. (43_decoder.md R248;
70_reset_and_hazards.md R973). -/
def Obligations.ResponseDependsOnTheSuffix : Prop :=
  ∀ (p : Params) (t : OpcodeTable) (regs : RegisterTable) (r r' : Request), r.view.wf = true →
    r'.view.wf = true → r.is32 = r'.is32 →
    (∀ n, r.view.byteAt (r.offset + n) = r'.view.byteAt (r'.offset + n)) →
    (r.offset = r'.offset → decodeRequest p t regs r = decodeRequest p t regs r') ∧
    (∀ ins : Instruction, decodeRequest p t regs r = .ok ins → decodeRequest p t regs r' = .ok ins)

/-- No byte after the instruction changes its Instruction. If a request decodes to an Instruction, then any
request with the same offset and mode whose view agrees on the bytes of that instruction, and whose limit
does not cut it, decodes to the same Instruction, whatever follows and however long the view is.
(43_decoder.md R245; 43_decoder.md R248). -/
def Obligations.BytesAfterAreIrrelevant : Prop :=
  ∀ (p p' : Params) (t : OpcodeTable) (regs : RegisterTable) (r r' : Request) (ins : Instruction),
    r.view.wf = true → r'.view.wf = true → r.offset = r'.offset → r.is32 = r'.is32 →
    decodeRequest p t regs r = .ok ins → r.offset + ins.length ≤ viewLimit p' r' →
    (∀ q, r.offset ≤ q → q < r.offset + ins.length → r.view.byteAt q = r'.view.byteAt q) →
    decodeRequest p' t regs r' = .ok ins

/-- What a memory, direct offset or relative operand denotes to the consumer. For every valuation of the
registers: the effective offset of an operand whose displacement has the address size is the same number
whether the displacement is read unsigned or signed, and it is below 2^asz; a direct offset operand
denotes the value of its field; a relative operand of one byte, or of the operand size, denotes the
offset of the following instruction plus the two's complement value of its field, modulo 2^osz. The block
itself computes none of these. (42_addressing_resolver.md R215; 42_addressing_resolver.md R203;
42_addressing_resolver.md R202; 43_decoder.md R252). -/
def Obligations.ConsumerValues : Prop :=
  ∀ (value : Reg → Nat) (c : Ctx) (t : OpType),
    (∀ (o : OperandDescriptor) (v : Nat), v < 2 ^ (8 * c.asz.bytes) →
      effectiveOffset value c.asz { o with displacement := v, displacementSize := c.asz.bytes } =
        effectiveOffset value c.asz
          { o with displacement := sextBytes c.asz.bytes v, displacementSize := c.asz.bytes }) ∧
    (∀ o : OperandDescriptor, 0 ≤ effectiveOffset value c.asz o ∧
      effectiveOffset value c.asz o < 2 ^ (8 * c.asz.bytes)) ∧
    (∀ f : Field, f.size = c.asz.bytes → effectiveOffset value c.asz (resolve c (.O t) f) = f.value) ∧
    (∀ (next : Nat) (b : BitVec 8),
      relativeTarget c.osz next (resolve c (.J t) (.f8 b)) = ((next : Int) + b.toInt) % 2 ^ (8 * c.osz.bytes)) ∧
    (∀ (next : Nat) (b : BitVec 16), c.osz = .s16 →
      relativeTarget c.osz next (resolve c (.J t) (.f16 b)) = ((next : Int) + b.toInt) % 2 ^ 16) ∧
    (∀ (next : Nat) (b : BitVec 32), c.osz = .s32 →
      relativeTarget c.osz next (resolve c (.J t) (.f32 b)) = ((next : Int) + b.toInt) % 2 ^ 32)

/-- The eight ALU operations 00 to 3D: each of the 48 rows answers its Instruction. For every state in which
a row is served and every operand field, each row answers the next state whose response is the
Instruction of R241: the descriptor of the row, the length with the opcode byte and the fields consumed,
the two attributes, the operands of the row's specs in declared order and the recorded prefixes; the
latches are those of the finished request and everything else is unchanged. (44_onebyte_00_5F.md R300 to
R358; 43_decoder.md R240; 43_decoder.md R241). -/
def Obligations.AluRows : Prop :=
  ∀ (s : State) (l : Latches), Serving s l →
    (∀ (reg : BitVec 3) (e : Rm), exec (.add_00 reg e) s = .next (answered s l (.one 0x00#8) "ADD" [.E .b, .G .b] (.block reg e []))) ∧
    (∀ (reg : BitVec 3) (e : Rm), exec (.add_01 reg e) s = .next (answered s l (.one 0x01#8) "ADD" [.E .v, .G .v] (.block reg e []))) ∧
    (∀ (reg : BitVec 3) (e : Rm), exec (.add_02 reg e) s = .next (answered s l (.one 0x02#8) "ADD" [.G .b, .E .b] (.block reg e []))) ∧
    (∀ (reg : BitVec 3) (e : Rm), exec (.add_03 reg e) s = .next (answered s l (.one 0x03#8) "ADD" [.G .v, .E .v] (.block reg e []))) ∧
    (∀ (imm : BitVec 8), exec (.add_04 imm) s = .next (answered s l (.one 0x04#8) "ADD" [.fixed .al, .I .b] (.plain [.f8 imm]))) ∧
    (∀ (imm : Field), exec (.add_05 imm) s = .next (answered s l (.one 0x05#8) "ADD" [.fixed .eAX, .I .v] (.plain [imm]))) ∧
    (∀ (reg : BitVec 3) (e : Rm), exec (.or_08 reg e) s = .next (answered s l (.one 0x08#8) "OR" [.E .b, .G .b] (.block reg e []))) ∧
    (∀ (reg : BitVec 3) (e : Rm), exec (.or_09 reg e) s = .next (answered s l (.one 0x09#8) "OR" [.E .v, .G .v] (.block reg e []))) ∧
    (∀ (reg : BitVec 3) (e : Rm), exec (.or_0A reg e) s = .next (answered s l (.one 0x0A#8) "OR" [.G .b, .E .b] (.block reg e []))) ∧
    (∀ (reg : BitVec 3) (e : Rm), exec (.or_0B reg e) s = .next (answered s l (.one 0x0B#8) "OR" [.G .v, .E .v] (.block reg e []))) ∧
    (∀ (imm : BitVec 8), exec (.or_0C imm) s = .next (answered s l (.one 0x0C#8) "OR" [.fixed .al, .I .b] (.plain [.f8 imm]))) ∧
    (∀ (imm : Field), exec (.or_0D imm) s = .next (answered s l (.one 0x0D#8) "OR" [.fixed .eAX, .I .v] (.plain [imm]))) ∧
    (∀ (reg : BitVec 3) (e : Rm), exec (.adc_10 reg e) s = .next (answered s l (.one 0x10#8) "ADC" [.E .b, .G .b] (.block reg e []))) ∧
    (∀ (reg : BitVec 3) (e : Rm), exec (.adc_11 reg e) s = .next (answered s l (.one 0x11#8) "ADC" [.E .v, .G .v] (.block reg e []))) ∧
    (∀ (reg : BitVec 3) (e : Rm), exec (.adc_12 reg e) s = .next (answered s l (.one 0x12#8) "ADC" [.G .b, .E .b] (.block reg e []))) ∧
    (∀ (reg : BitVec 3) (e : Rm), exec (.adc_13 reg e) s = .next (answered s l (.one 0x13#8) "ADC" [.G .v, .E .v] (.block reg e []))) ∧
    (∀ (imm : BitVec 8), exec (.adc_14 imm) s = .next (answered s l (.one 0x14#8) "ADC" [.fixed .al, .I .b] (.plain [.f8 imm]))) ∧
    (∀ (imm : Field), exec (.adc_15 imm) s = .next (answered s l (.one 0x15#8) "ADC" [.fixed .eAX, .I .v] (.plain [imm]))) ∧
    (∀ (reg : BitVec 3) (e : Rm), exec (.sbb_18 reg e) s = .next (answered s l (.one 0x18#8) "SBB" [.E .b, .G .b] (.block reg e []))) ∧
    (∀ (reg : BitVec 3) (e : Rm), exec (.sbb_19 reg e) s = .next (answered s l (.one 0x19#8) "SBB" [.E .v, .G .v] (.block reg e []))) ∧
    (∀ (reg : BitVec 3) (e : Rm), exec (.sbb_1A reg e) s = .next (answered s l (.one 0x1A#8) "SBB" [.G .b, .E .b] (.block reg e []))) ∧
    (∀ (reg : BitVec 3) (e : Rm), exec (.sbb_1B reg e) s = .next (answered s l (.one 0x1B#8) "SBB" [.G .v, .E .v] (.block reg e []))) ∧
    (∀ (imm : BitVec 8), exec (.sbb_1C imm) s = .next (answered s l (.one 0x1C#8) "SBB" [.fixed .al, .I .b] (.plain [.f8 imm]))) ∧
    (∀ (imm : Field), exec (.sbb_1D imm) s = .next (answered s l (.one 0x1D#8) "SBB" [.fixed .eAX, .I .v] (.plain [imm]))) ∧
    (∀ (reg : BitVec 3) (e : Rm), exec (.and_20 reg e) s = .next (answered s l (.one 0x20#8) "AND" [.E .b, .G .b] (.block reg e []))) ∧
    (∀ (reg : BitVec 3) (e : Rm), exec (.and_21 reg e) s = .next (answered s l (.one 0x21#8) "AND" [.E .v, .G .v] (.block reg e []))) ∧
    (∀ (reg : BitVec 3) (e : Rm), exec (.and_22 reg e) s = .next (answered s l (.one 0x22#8) "AND" [.G .b, .E .b] (.block reg e []))) ∧
    (∀ (reg : BitVec 3) (e : Rm), exec (.and_23 reg e) s = .next (answered s l (.one 0x23#8) "AND" [.G .v, .E .v] (.block reg e []))) ∧
    (∀ (imm : BitVec 8), exec (.and_24 imm) s = .next (answered s l (.one 0x24#8) "AND" [.fixed .al, .I .b] (.plain [.f8 imm]))) ∧
    (∀ (imm : Field), exec (.and_25 imm) s = .next (answered s l (.one 0x25#8) "AND" [.fixed .eAX, .I .v] (.plain [imm]))) ∧
    (∀ (reg : BitVec 3) (e : Rm), exec (.sub_28 reg e) s = .next (answered s l (.one 0x28#8) "SUB" [.E .b, .G .b] (.block reg e []))) ∧
    (∀ (reg : BitVec 3) (e : Rm), exec (.sub_29 reg e) s = .next (answered s l (.one 0x29#8) "SUB" [.E .v, .G .v] (.block reg e []))) ∧
    (∀ (reg : BitVec 3) (e : Rm), exec (.sub_2A reg e) s = .next (answered s l (.one 0x2A#8) "SUB" [.G .b, .E .b] (.block reg e []))) ∧
    (∀ (reg : BitVec 3) (e : Rm), exec (.sub_2B reg e) s = .next (answered s l (.one 0x2B#8) "SUB" [.G .v, .E .v] (.block reg e []))) ∧
    (∀ (imm : BitVec 8), exec (.sub_2C imm) s = .next (answered s l (.one 0x2C#8) "SUB" [.fixed .al, .I .b] (.plain [.f8 imm]))) ∧
    (∀ (imm : Field), exec (.sub_2D imm) s = .next (answered s l (.one 0x2D#8) "SUB" [.fixed .eAX, .I .v] (.plain [imm]))) ∧
    (∀ (reg : BitVec 3) (e : Rm), exec (.xor_30 reg e) s = .next (answered s l (.one 0x30#8) "XOR" [.E .b, .G .b] (.block reg e []))) ∧
    (∀ (reg : BitVec 3) (e : Rm), exec (.xor_31 reg e) s = .next (answered s l (.one 0x31#8) "XOR" [.E .v, .G .v] (.block reg e []))) ∧
    (∀ (reg : BitVec 3) (e : Rm), exec (.xor_32 reg e) s = .next (answered s l (.one 0x32#8) "XOR" [.G .b, .E .b] (.block reg e []))) ∧
    (∀ (reg : BitVec 3) (e : Rm), exec (.xor_33 reg e) s = .next (answered s l (.one 0x33#8) "XOR" [.G .v, .E .v] (.block reg e []))) ∧
    (∀ (imm : BitVec 8), exec (.xor_34 imm) s = .next (answered s l (.one 0x34#8) "XOR" [.fixed .al, .I .b] (.plain [.f8 imm]))) ∧
    (∀ (imm : Field), exec (.xor_35 imm) s = .next (answered s l (.one 0x35#8) "XOR" [.fixed .eAX, .I .v] (.plain [imm]))) ∧
    (∀ (reg : BitVec 3) (e : Rm), exec (.cmp_38 reg e) s = .next (answered s l (.one 0x38#8) "CMP" [.E .b, .G .b] (.block reg e []))) ∧
    (∀ (reg : BitVec 3) (e : Rm), exec (.cmp_39 reg e) s = .next (answered s l (.one 0x39#8) "CMP" [.E .v, .G .v] (.block reg e []))) ∧
    (∀ (reg : BitVec 3) (e : Rm), exec (.cmp_3A reg e) s = .next (answered s l (.one 0x3A#8) "CMP" [.G .b, .E .b] (.block reg e []))) ∧
    (∀ (reg : BitVec 3) (e : Rm), exec (.cmp_3B reg e) s = .next (answered s l (.one 0x3B#8) "CMP" [.G .v, .E .v] (.block reg e []))) ∧
    (∀ (imm : BitVec 8), exec (.cmp_3C imm) s = .next (answered s l (.one 0x3C#8) "CMP" [.fixed .al, .I .b] (.plain [.f8 imm]))) ∧
    (∀ (imm : Field), exec (.cmp_3D imm) s = .next (answered s l (.one 0x3D#8) "CMP" [.fixed .eAX, .I .v] (.plain [imm])))

/-- The other rows of 00 to 5F: segment PUSH and POP, BCD adjusts, INC, DEC, PUSH, POP. For every state in
which a row is served and every operand field, each row answers the next state whose response is the
Instruction of R241: the descriptor of the row, the length with the opcode byte and the fields consumed,
the two attributes, the operands of the row's specs in declared order and the recorded prefixes; the
latches are those of the finished request and everything else is unchanged. (44_onebyte_00_5F.md R306 to
R362; 43_decoder.md R240; 43_decoder.md R241). -/
def Obligations.Rows00To5F : Prop :=
  ∀ (s : State) (l : Latches), Serving s l →
    (exec (.push_06) s = .next (answered s l (.one 0x06#8) "PUSH" [.fixed (.seg .es)] (.plain []))) ∧
    (exec (.pop_07) s = .next (answered s l (.one 0x07#8) "POP" [.fixed (.seg .es)] (.plain []))) ∧
    (exec (.push_0E) s = .next (answered s l (.one 0x0E#8) "PUSH" [.fixed (.seg .cs)] (.plain []))) ∧
    (exec (.push_16) s = .next (answered s l (.one 0x16#8) "PUSH" [.fixed (.seg .ss)] (.plain []))) ∧
    (exec (.pop_17) s = .next (answered s l (.one 0x17#8) "POP" [.fixed (.seg .ss)] (.plain []))) ∧
    (exec (.push_1E) s = .next (answered s l (.one 0x1E#8) "PUSH" [.fixed (.seg .ds)] (.plain []))) ∧
    (exec (.pop_1F) s = .next (answered s l (.one 0x1F#8) "POP" [.fixed (.seg .ds)] (.plain []))) ∧
    (exec (.daa_27) s = .next (answered s l (.one 0x27#8) "DAA" [] (.plain []))) ∧
    (exec (.das_2F) s = .next (answered s l (.one 0x2F#8) "DAS" [] (.plain []))) ∧
    (exec (.aaa_37) s = .next (answered s l (.one 0x37#8) "AAA" [] (.plain []))) ∧
    (exec (.aas_3F) s = .next (answered s l (.one 0x3F#8) "AAS" [] (.plain []))) ∧
    (∀ (r : BitVec 3), exec (.inc_40 r) s = .next (answered s l (.one (opcodeReg 0x40#8 r)) "INC" [.Z .v] (.plain []))) ∧
    (∀ (r : BitVec 3), exec (.dec_48 r) s = .next (answered s l (.one (opcodeReg 0x48#8 r)) "DEC" [.Z .v] (.plain []))) ∧
    (∀ (r : BitVec 3), exec (.push_50 r) s = .next (answered s l (.one (opcodeReg 0x50#8 r)) "PUSH" [.Z .v] (.plain []))) ∧
    (∀ (r : BitVec 3), exec (.pop_58 r) s = .next (answered s l (.one (opcodeReg 0x58#8 r)) "POP" [.Z .v] (.plain [])))

/-- The rows 60 to 7F: PUSHA to the string I/O rows and the short conditional jumps. For every state in which
a row is served and every operand field, each row answers the next state whose response is the
Instruction of R241: the descriptor of the row, the length with the opcode byte and the fields consumed,
the two attributes, the operands of the row's specs in declared order and the recorded prefixes; the
latches are those of the finished request and everything else is unchanged. (45_onebyte_60_8F.md R363 to
R390; 43_decoder.md R240; 43_decoder.md R241). -/
def Obligations.ShortJumpRows : Prop :=
  ∀ (s : State) (l : Latches), Serving s l →
    (exec (.pusha_60) s = .next (answered s l (.one 0x60#8) "PUSHA" [] (.plain []))) ∧
    (exec (.popa_61) s = .next (answered s l (.one 0x61#8) "POPA" [] (.plain []))) ∧
    (∀ (reg : BitVec 3) (e : Rm), exec (.bound_62 reg e) s = .next (answered s l (.one 0x62#8) "BOUND" [.G .v, .M (some .a)] (.block reg e []))) ∧
    (∀ (reg : BitVec 3) (e : Rm), exec (.arpl_63 reg e) s = .next (answered s l (.one 0x63#8) "ARPL" [.E .w, .G .w] (.block reg e []))) ∧
    (∀ (imm : Field), exec (.push_68 imm) s = .next (answered s l (.one 0x68#8) "PUSH" [.I .v] (.plain [imm]))) ∧
    (∀ (reg : BitVec 3) (e : Rm) (imm : Field), exec (.imul_69 reg e imm) s = .next (answered s l (.one 0x69#8) "IMUL" [.G .v, .E .v, .I .v] (.block reg e [imm]))) ∧
    (∀ (imm : BitVec 8), exec (.push_6A imm) s = .next (answered s l (.one 0x6A#8) "PUSH" [.I .bs] (.plain [.f8 imm]))) ∧
    (∀ (reg : BitVec 3) (e : Rm) (imm : BitVec 8), exec (.imul_6B reg e imm) s = .next (answered s l (.one 0x6B#8) "IMUL" [.G .v, .E .v, .I .bs] (.block reg e [.f8 imm]))) ∧
    (exec (.insb_6C) s = .next (answered s l (.one 0x6C#8) "INSB" [.Y .b, .fixed .dx] (.plain []))) ∧
    (exec (.insw_6D) s = .next (answered s l (.one 0x6D#8) "INSW" [.Y .v, .fixed .dx] (.plain []))) ∧
    (exec (.outsb_6E) s = .next (answered s l (.one 0x6E#8) "OUTSB" [.fixed .dx, .X .b] (.plain []))) ∧
    (exec (.outsw_6F) s = .next (answered s l (.one 0x6F#8) "OUTSW" [.fixed .dx, .X .v] (.plain []))) ∧
    (∀ (rel : BitVec 8), exec (.jo_70 rel) s = .next (answered s l (.one 0x70#8) "JO" [.J .b] (.plain [.f8 rel]))) ∧
    (∀ (rel : BitVec 8), exec (.jno_71 rel) s = .next (answered s l (.one 0x71#8) "JNO" [.J .b] (.plain [.f8 rel]))) ∧
    (∀ (rel : BitVec 8), exec (.jb_72 rel) s = .next (answered s l (.one 0x72#8) "JB" [.J .b] (.plain [.f8 rel]))) ∧
    (∀ (rel : BitVec 8), exec (.jnb_73 rel) s = .next (answered s l (.one 0x73#8) "JNB" [.J .b] (.plain [.f8 rel]))) ∧
    (∀ (rel : BitVec 8), exec (.jz_74 rel) s = .next (answered s l (.one 0x74#8) "JZ" [.J .b] (.plain [.f8 rel]))) ∧
    (∀ (rel : BitVec 8), exec (.jnz_75 rel) s = .next (answered s l (.one 0x75#8) "JNZ" [.J .b] (.plain [.f8 rel]))) ∧
    (∀ (rel : BitVec 8), exec (.jbe_76 rel) s = .next (answered s l (.one 0x76#8) "JBE" [.J .b] (.plain [.f8 rel]))) ∧
    (∀ (rel : BitVec 8), exec (.jnbe_77 rel) s = .next (answered s l (.one 0x77#8) "JNBE" [.J .b] (.plain [.f8 rel]))) ∧
    (∀ (rel : BitVec 8), exec (.js_78 rel) s = .next (answered s l (.one 0x78#8) "JS" [.J .b] (.plain [.f8 rel]))) ∧
    (∀ (rel : BitVec 8), exec (.jns_79 rel) s = .next (answered s l (.one 0x79#8) "JNS" [.J .b] (.plain [.f8 rel]))) ∧
    (∀ (rel : BitVec 8), exec (.jp_7A rel) s = .next (answered s l (.one 0x7A#8) "JP" [.J .b] (.plain [.f8 rel]))) ∧
    (∀ (rel : BitVec 8), exec (.jnp_7B rel) s = .next (answered s l (.one 0x7B#8) "JNP" [.J .b] (.plain [.f8 rel]))) ∧
    (∀ (rel : BitVec 8), exec (.jl_7C rel) s = .next (answered s l (.one 0x7C#8) "JL" [.J .b] (.plain [.f8 rel]))) ∧
    (∀ (rel : BitVec 8), exec (.jnl_7D rel) s = .next (answered s l (.one 0x7D#8) "JNL" [.J .b] (.plain [.f8 rel]))) ∧
    (∀ (rel : BitVec 8), exec (.jle_7E rel) s = .next (answered s l (.one 0x7E#8) "JLE" [.J .b] (.plain [.f8 rel]))) ∧
    (∀ (rel : BitVec 8), exec (.jnle_7F rel) s = .next (answered s l (.one 0x7F#8) "JNLE" [.J .b] (.plain [.f8 rel])))

/-- Group 1, 80 to 83: each of the 32 rows answers its Instruction. For every state in which a row is served
and every operand field, each row answers the next state whose response is the Instruction of R241: the
descriptor of the row, the length with the opcode byte and the fields consumed, the two attributes, the
operands of the row's specs in declared order and the recorded prefixes; the latches are those of the
finished request and everything else is unchanged. (45_onebyte_60_8F.md R392 to R426; 41_opcode_table.md
R164; 43_decoder.md R241). -/
def Obligations.Group1Rows : Prop :=
  ∀ (s : State) (l : Latches), Serving s l →
    (∀ (e : Rm) (imm : BitVec 8), exec (.add_80_0 e imm) s = .next (answered s l (.one 0x80#8) "ADD" [.E .b, .I .b] (.block 0#3 e [.f8 imm]))) ∧
    (∀ (e : Rm) (imm : BitVec 8), exec (.or_80_1 e imm) s = .next (answered s l (.one 0x80#8) "OR" [.E .b, .I .b] (.block 1#3 e [.f8 imm]))) ∧
    (∀ (e : Rm) (imm : BitVec 8), exec (.adc_80_2 e imm) s = .next (answered s l (.one 0x80#8) "ADC" [.E .b, .I .b] (.block 2#3 e [.f8 imm]))) ∧
    (∀ (e : Rm) (imm : BitVec 8), exec (.sbb_80_3 e imm) s = .next (answered s l (.one 0x80#8) "SBB" [.E .b, .I .b] (.block 3#3 e [.f8 imm]))) ∧
    (∀ (e : Rm) (imm : BitVec 8), exec (.and_80_4 e imm) s = .next (answered s l (.one 0x80#8) "AND" [.E .b, .I .b] (.block 4#3 e [.f8 imm]))) ∧
    (∀ (e : Rm) (imm : BitVec 8), exec (.sub_80_5 e imm) s = .next (answered s l (.one 0x80#8) "SUB" [.E .b, .I .b] (.block 5#3 e [.f8 imm]))) ∧
    (∀ (e : Rm) (imm : BitVec 8), exec (.xor_80_6 e imm) s = .next (answered s l (.one 0x80#8) "XOR" [.E .b, .I .b] (.block 6#3 e [.f8 imm]))) ∧
    (∀ (e : Rm) (imm : BitVec 8), exec (.cmp_80_7 e imm) s = .next (answered s l (.one 0x80#8) "CMP" [.E .b, .I .b] (.block 7#3 e [.f8 imm]))) ∧
    (∀ (e : Rm) (imm : Field), exec (.add_81_0 e imm) s = .next (answered s l (.one 0x81#8) "ADD" [.E .v, .I .v] (.block 0#3 e [imm]))) ∧
    (∀ (e : Rm) (imm : Field), exec (.or_81_1 e imm) s = .next (answered s l (.one 0x81#8) "OR" [.E .v, .I .v] (.block 1#3 e [imm]))) ∧
    (∀ (e : Rm) (imm : Field), exec (.adc_81_2 e imm) s = .next (answered s l (.one 0x81#8) "ADC" [.E .v, .I .v] (.block 2#3 e [imm]))) ∧
    (∀ (e : Rm) (imm : Field), exec (.sbb_81_3 e imm) s = .next (answered s l (.one 0x81#8) "SBB" [.E .v, .I .v] (.block 3#3 e [imm]))) ∧
    (∀ (e : Rm) (imm : Field), exec (.and_81_4 e imm) s = .next (answered s l (.one 0x81#8) "AND" [.E .v, .I .v] (.block 4#3 e [imm]))) ∧
    (∀ (e : Rm) (imm : Field), exec (.sub_81_5 e imm) s = .next (answered s l (.one 0x81#8) "SUB" [.E .v, .I .v] (.block 5#3 e [imm]))) ∧
    (∀ (e : Rm) (imm : Field), exec (.xor_81_6 e imm) s = .next (answered s l (.one 0x81#8) "XOR" [.E .v, .I .v] (.block 6#3 e [imm]))) ∧
    (∀ (e : Rm) (imm : Field), exec (.cmp_81_7 e imm) s = .next (answered s l (.one 0x81#8) "CMP" [.E .v, .I .v] (.block 7#3 e [imm]))) ∧
    (∀ (e : Rm) (imm : BitVec 8), exec (.add_82_0 e imm) s = .next (answered s l (.one 0x82#8) "ADD" [.E .b, .I .b] (.block 0#3 e [.f8 imm]))) ∧
    (∀ (e : Rm) (imm : BitVec 8), exec (.or_82_1 e imm) s = .next (answered s l (.one 0x82#8) "OR" [.E .b, .I .b] (.block 1#3 e [.f8 imm]))) ∧
    (∀ (e : Rm) (imm : BitVec 8), exec (.adc_82_2 e imm) s = .next (answered s l (.one 0x82#8) "ADC" [.E .b, .I .b] (.block 2#3 e [.f8 imm]))) ∧
    (∀ (e : Rm) (imm : BitVec 8), exec (.sbb_82_3 e imm) s = .next (answered s l (.one 0x82#8) "SBB" [.E .b, .I .b] (.block 3#3 e [.f8 imm]))) ∧
    (∀ (e : Rm) (imm : BitVec 8), exec (.and_82_4 e imm) s = .next (answered s l (.one 0x82#8) "AND" [.E .b, .I .b] (.block 4#3 e [.f8 imm]))) ∧
    (∀ (e : Rm) (imm : BitVec 8), exec (.sub_82_5 e imm) s = .next (answered s l (.one 0x82#8) "SUB" [.E .b, .I .b] (.block 5#3 e [.f8 imm]))) ∧
    (∀ (e : Rm) (imm : BitVec 8), exec (.xor_82_6 e imm) s = .next (answered s l (.one 0x82#8) "XOR" [.E .b, .I .b] (.block 6#3 e [.f8 imm]))) ∧
    (∀ (e : Rm) (imm : BitVec 8), exec (.cmp_82_7 e imm) s = .next (answered s l (.one 0x82#8) "CMP" [.E .b, .I .b] (.block 7#3 e [.f8 imm]))) ∧
    (∀ (e : Rm) (imm : BitVec 8), exec (.add_83_0 e imm) s = .next (answered s l (.one 0x83#8) "ADD" [.E .v, .I .bs] (.block 0#3 e [.f8 imm]))) ∧
    (∀ (e : Rm) (imm : BitVec 8), exec (.or_83_1 e imm) s = .next (answered s l (.one 0x83#8) "OR" [.E .v, .I .bs] (.block 1#3 e [.f8 imm]))) ∧
    (∀ (e : Rm) (imm : BitVec 8), exec (.adc_83_2 e imm) s = .next (answered s l (.one 0x83#8) "ADC" [.E .v, .I .bs] (.block 2#3 e [.f8 imm]))) ∧
    (∀ (e : Rm) (imm : BitVec 8), exec (.sbb_83_3 e imm) s = .next (answered s l (.one 0x83#8) "SBB" [.E .v, .I .bs] (.block 3#3 e [.f8 imm]))) ∧
    (∀ (e : Rm) (imm : BitVec 8), exec (.and_83_4 e imm) s = .next (answered s l (.one 0x83#8) "AND" [.E .v, .I .bs] (.block 4#3 e [.f8 imm]))) ∧
    (∀ (e : Rm) (imm : BitVec 8), exec (.sub_83_5 e imm) s = .next (answered s l (.one 0x83#8) "SUB" [.E .v, .I .bs] (.block 5#3 e [.f8 imm]))) ∧
    (∀ (e : Rm) (imm : BitVec 8), exec (.xor_83_6 e imm) s = .next (answered s l (.one 0x83#8) "XOR" [.E .v, .I .bs] (.block 6#3 e [.f8 imm]))) ∧
    (∀ (e : Rm) (imm : BitVec 8), exec (.cmp_83_7 e imm) s = .next (answered s l (.one 0x83#8) "CMP" [.E .v, .I .bs] (.block 7#3 e [.f8 imm])))

/-- The rows 84 to 8F without an S-class operand. For every state in which a row is served and every operand
field, each row answers the next state whose response is the Instruction of R241: the descriptor of the
row, the length with the opcode byte and the fields consumed, the two attributes, the operands of the
row's specs in declared order and the recorded prefixes; the latches are those of the finished request
and everything else is unchanged. (45_onebyte_60_8F.md R427 to R439; 43_decoder.md R240; 43_decoder.md
R241). -/
def Obligations.Rows84To8F : Prop :=
  ∀ (s : State) (l : Latches), Serving s l →
    (∀ (reg : BitVec 3) (e : Rm), exec (.test_84 reg e) s = .next (answered s l (.one 0x84#8) "TEST" [.E .b, .G .b] (.block reg e []))) ∧
    (∀ (reg : BitVec 3) (e : Rm), exec (.test_85 reg e) s = .next (answered s l (.one 0x85#8) "TEST" [.E .v, .G .v] (.block reg e []))) ∧
    (∀ (reg : BitVec 3) (e : Rm), exec (.xchg_86 reg e) s = .next (answered s l (.one 0x86#8) "XCHG" [.E .b, .G .b] (.block reg e []))) ∧
    (∀ (reg : BitVec 3) (e : Rm), exec (.xchg_87 reg e) s = .next (answered s l (.one 0x87#8) "XCHG" [.E .v, .G .v] (.block reg e []))) ∧
    (∀ (reg : BitVec 3) (e : Rm), exec (.mov_88 reg e) s = .next (answered s l (.one 0x88#8) "MOV" [.E .b, .G .b] (.block reg e []))) ∧
    (∀ (reg : BitVec 3) (e : Rm), exec (.mov_89 reg e) s = .next (answered s l (.one 0x89#8) "MOV" [.E .v, .G .v] (.block reg e []))) ∧
    (∀ (reg : BitVec 3) (e : Rm), exec (.mov_8A reg e) s = .next (answered s l (.one 0x8A#8) "MOV" [.G .b, .E .b] (.block reg e []))) ∧
    (∀ (reg : BitVec 3) (e : Rm), exec (.mov_8B reg e) s = .next (answered s l (.one 0x8B#8) "MOV" [.G .v, .E .v] (.block reg e []))) ∧
    (∀ (reg : BitVec 3) (e : Rm), exec (.lea_8D reg e) s = .next (answered s l (.one 0x8D#8) "LEA" [.G .v, .M none] (.block reg e []))) ∧
    (∀ (e : Rm), exec (.pop_8F_0 e) s = .next (answered s l (.one 0x8F#8) "POP" [.E .v] (.block 0#3 e [])))

/-- The rows 90 to BF: NOP, XCHG, flags, far call, MOV with an offset, strings, MOV of an immediate. For
every state in which a row is served and every operand field, each row answers the next state whose
response is the Instruction of R241: the descriptor of the row, the length with the opcode byte and the
fields consumed, the two attributes, the operands of the row's specs in declared order and the recorded
prefixes; the latches are those of the finished request and everything else is unchanged.
(46_onebyte_90_CF.md R440 to R467; 43_decoder.md R240; 43_decoder.md R241). -/
def Obligations.Rows90ToBF : Prop :=
  ∀ (s : State) (l : Latches), Serving s l →
    (exec (.nop_90) s = .next (answered s l (.one 0x90#8) "NOP" [] (.plain []))) ∧
    (exec (.xchg_91) s = .next (answered s l (.one 0x91#8) "XCHG" [.Z .v, .fixed .eAX] (.plain []))) ∧
    (exec (.xchg_92) s = .next (answered s l (.one 0x92#8) "XCHG" [.Z .v, .fixed .eAX] (.plain []))) ∧
    (exec (.xchg_93) s = .next (answered s l (.one 0x93#8) "XCHG" [.Z .v, .fixed .eAX] (.plain []))) ∧
    (exec (.xchg_94) s = .next (answered s l (.one 0x94#8) "XCHG" [.Z .v, .fixed .eAX] (.plain []))) ∧
    (exec (.xchg_95) s = .next (answered s l (.one 0x95#8) "XCHG" [.Z .v, .fixed .eAX] (.plain []))) ∧
    (exec (.xchg_96) s = .next (answered s l (.one 0x96#8) "XCHG" [.Z .v, .fixed .eAX] (.plain []))) ∧
    (exec (.xchg_97) s = .next (answered s l (.one 0x97#8) "XCHG" [.Z .v, .fixed .eAX] (.plain []))) ∧
    (exec (.cbw_98) s = .next (answered s l (.one 0x98#8) "CBW" [] (.plain []))) ∧
    (exec (.cwd_99) s = .next (answered s l (.one 0x99#8) "CWD" [] (.plain []))) ∧
    (∀ (off : Field) (sel : BitVec 16), exec (.callf_9A off sel) s = .next (answered s l (.one 0x9A#8) "CALLF" [.I .v, .I .w] (.plain [off, .f16 sel]))) ∧
    (exec (.wait_9B) s = .next (answered s l (.one 0x9B#8) "WAIT" [] (.plain []))) ∧
    (exec (.pushf_9C) s = .next (answered s l (.one 0x9C#8) "PUSHF" [] (.plain []))) ∧
    (exec (.popf_9D) s = .next (answered s l (.one 0x9D#8) "POPF" [] (.plain []))) ∧
    (exec (.sahf_9E) s = .next (answered s l (.one 0x9E#8) "SAHF" [] (.plain []))) ∧
    (exec (.lahf_9F) s = .next (answered s l (.one 0x9F#8) "LAHF" [] (.plain []))) ∧
    (∀ (off : Field), exec (.mov_A0 off) s = .next (answered s l (.one 0xA0#8) "MOV" [.fixed .al, .O .b] (.plain [off]))) ∧
    (∀ (off : Field), exec (.mov_A1 off) s = .next (answered s l (.one 0xA1#8) "MOV" [.fixed .eAX, .O .v] (.plain [off]))) ∧
    (∀ (off : Field), exec (.mov_A2 off) s = .next (answered s l (.one 0xA2#8) "MOV" [.O .b, .fixed .al] (.plain [off]))) ∧
    (∀ (off : Field), exec (.mov_A3 off) s = .next (answered s l (.one 0xA3#8) "MOV" [.O .v, .fixed .eAX] (.plain [off]))) ∧
    (exec (.movsb_A4) s = .next (answered s l (.one 0xA4#8) "MOVSB" [.X .b, .Y .b] (.plain []))) ∧
    (exec (.movsw_A5) s = .next (answered s l (.one 0xA5#8) "MOVSW" [.X .v, .Y .v] (.plain []))) ∧
    (exec (.cmpsb_A6) s = .next (answered s l (.one 0xA6#8) "CMPSB" [.X .b, .Y .b] (.plain []))) ∧
    (exec (.cmpsw_A7) s = .next (answered s l (.one 0xA7#8) "CMPSW" [.X .v, .Y .v] (.plain []))) ∧
    (∀ (imm : BitVec 8), exec (.test_A8 imm) s = .next (answered s l (.one 0xA8#8) "TEST" [.fixed .al, .I .b] (.plain [.f8 imm]))) ∧
    (∀ (imm : Field), exec (.test_A9 imm) s = .next (answered s l (.one 0xA9#8) "TEST" [.fixed .eAX, .I .v] (.plain [imm]))) ∧
    (exec (.stosb_AA) s = .next (answered s l (.one 0xAA#8) "STOSB" [.Y .b, .fixed .al] (.plain []))) ∧
    (exec (.stosw_AB) s = .next (answered s l (.one 0xAB#8) "STOSW" [.Y .v, .fixed .eAX] (.plain []))) ∧
    (exec (.lodsb_AC) s = .next (answered s l (.one 0xAC#8) "LODSB" [.fixed .al, .X .b] (.plain []))) ∧
    (exec (.lodsw_AD) s = .next (answered s l (.one 0xAD#8) "LODSW" [.fixed .eAX, .X .v] (.plain []))) ∧
    (exec (.scasb_AE) s = .next (answered s l (.one 0xAE#8) "SCASB" [.fixed .al, .Y .b] (.plain []))) ∧
    (exec (.scasw_AF) s = .next (answered s l (.one 0xAF#8) "SCASW" [.fixed .eAX, .Y .v] (.plain []))) ∧
    (∀ (r : BitVec 3) (imm : BitVec 8), exec (.mov_B0 r imm) s = .next (answered s l (.one (opcodeReg 0xB0#8 r)) "MOV" [.Z .b, .I .b] (.plain [.f8 imm]))) ∧
    (∀ (r : BitVec 3) (imm : Field), exec (.mov_B8 r imm) s = .next (answered s l (.one (opcodeReg 0xB8#8 r)) "MOV" [.Z .v, .I .v] (.plain [imm])))

/-- The rows C0 to CF: shift groups, returns, LES, LDS, Group 11, ENTER, LEAVE, INT, IRET. For every state in
which a row is served and every operand field, each row answers the next state whose response is the
Instruction of R241: the descriptor of the row, the length with the opcode byte and the fields consumed,
the two attributes, the operands of the row's specs in declared order and the recorded prefixes; the
latches are those of the finished request and everything else is unchanged. (46_onebyte_90_CF.md R469 to
R499; 43_decoder.md R240; 43_decoder.md R241). -/
def Obligations.RowsC0ToCF : Prop :=
  ∀ (s : State) (l : Latches), Serving s l →
    (∀ (e : Rm) (imm : BitVec 8), exec (.rol_C0_0 e imm) s = .next (answered s l (.one 0xC0#8) "ROL" [.E .b, .I .b] (.block 0#3 e [.f8 imm]))) ∧
    (∀ (e : Rm) (imm : BitVec 8), exec (.ror_C0_1 e imm) s = .next (answered s l (.one 0xC0#8) "ROR" [.E .b, .I .b] (.block 1#3 e [.f8 imm]))) ∧
    (∀ (e : Rm) (imm : BitVec 8), exec (.rcl_C0_2 e imm) s = .next (answered s l (.one 0xC0#8) "RCL" [.E .b, .I .b] (.block 2#3 e [.f8 imm]))) ∧
    (∀ (e : Rm) (imm : BitVec 8), exec (.rcr_C0_3 e imm) s = .next (answered s l (.one 0xC0#8) "RCR" [.E .b, .I .b] (.block 3#3 e [.f8 imm]))) ∧
    (∀ (e : Rm) (imm : BitVec 8), exec (.shl_C0_4 e imm) s = .next (answered s l (.one 0xC0#8) "SHL" [.E .b, .I .b] (.block 4#3 e [.f8 imm]))) ∧
    (∀ (e : Rm) (imm : BitVec 8), exec (.shr_C0_5 e imm) s = .next (answered s l (.one 0xC0#8) "SHR" [.E .b, .I .b] (.block 5#3 e [.f8 imm]))) ∧
    (∀ (e : Rm) (imm : BitVec 8), exec (.sar_C0_7 e imm) s = .next (answered s l (.one 0xC0#8) "SAR" [.E .b, .I .b] (.block 7#3 e [.f8 imm]))) ∧
    (∀ (e : Rm) (imm : BitVec 8), exec (.rol_C1_0 e imm) s = .next (answered s l (.one 0xC1#8) "ROL" [.E .v, .I .b] (.block 0#3 e [.f8 imm]))) ∧
    (∀ (e : Rm) (imm : BitVec 8), exec (.ror_C1_1 e imm) s = .next (answered s l (.one 0xC1#8) "ROR" [.E .v, .I .b] (.block 1#3 e [.f8 imm]))) ∧
    (∀ (e : Rm) (imm : BitVec 8), exec (.rcl_C1_2 e imm) s = .next (answered s l (.one 0xC1#8) "RCL" [.E .v, .I .b] (.block 2#3 e [.f8 imm]))) ∧
    (∀ (e : Rm) (imm : BitVec 8), exec (.rcr_C1_3 e imm) s = .next (answered s l (.one 0xC1#8) "RCR" [.E .v, .I .b] (.block 3#3 e [.f8 imm]))) ∧
    (∀ (e : Rm) (imm : BitVec 8), exec (.shl_C1_4 e imm) s = .next (answered s l (.one 0xC1#8) "SHL" [.E .v, .I .b] (.block 4#3 e [.f8 imm]))) ∧
    (∀ (e : Rm) (imm : BitVec 8), exec (.shr_C1_5 e imm) s = .next (answered s l (.one 0xC1#8) "SHR" [.E .v, .I .b] (.block 5#3 e [.f8 imm]))) ∧
    (∀ (e : Rm) (imm : BitVec 8), exec (.sar_C1_7 e imm) s = .next (answered s l (.one 0xC1#8) "SAR" [.E .v, .I .b] (.block 7#3 e [.f8 imm]))) ∧
    (∀ (imm : BitVec 16), exec (.ret_C2 imm) s = .next (answered s l (.one 0xC2#8) "RET" [.I .w] (.plain [.f16 imm]))) ∧
    (exec (.ret_C3) s = .next (answered s l (.one 0xC3#8) "RET" [] (.plain []))) ∧
    (∀ (reg : BitVec 3) (e : Rm), exec (.les_C4 reg e) s = .next (answered s l (.one 0xC4#8) "LES" [.G .v, .M (some .p)] (.block reg e []))) ∧
    (∀ (reg : BitVec 3) (e : Rm), exec (.lds_C5 reg e) s = .next (answered s l (.one 0xC5#8) "LDS" [.G .v, .M (some .p)] (.block reg e []))) ∧
    (∀ (e : Rm) (imm : BitVec 8), exec (.mov_C6_0 e imm) s = .next (answered s l (.one 0xC6#8) "MOV" [.E .b, .I .b] (.block 0#3 e [.f8 imm]))) ∧
    (∀ (e : Rm) (imm : Field), exec (.mov_C7_0 e imm) s = .next (answered s l (.one 0xC7#8) "MOV" [.E .v, .I .v] (.block 0#3 e [imm]))) ∧
    (∀ (size : BitVec 16) (level : BitVec 8), exec (.enter_C8 size level) s = .next (answered s l (.one 0xC8#8) "ENTER" [.I .w, .I .b] (.plain [.f16 size, .f8 level]))) ∧
    (exec (.leave_C9) s = .next (answered s l (.one 0xC9#8) "LEAVE" [] (.plain []))) ∧
    (∀ (imm : BitVec 16), exec (.retf_CA imm) s = .next (answered s l (.one 0xCA#8) "RETF" [.I .w] (.plain [.f16 imm]))) ∧
    (exec (.retf_CB) s = .next (answered s l (.one 0xCB#8) "RETF" [] (.plain []))) ∧
    (exec (.int3_CC) s = .next (answered s l (.one 0xCC#8) "INT3" [] (.plain []))) ∧
    (∀ (imm : BitVec 8), exec (.int_CD imm) s = .next (answered s l (.one 0xCD#8) "INT" [.I .b] (.plain [.f8 imm]))) ∧
    (exec (.into_CE) s = .next (answered s l (.one 0xCE#8) "INTO" [] (.plain []))) ∧
    (exec (.iret_CF) s = .next (answered s l (.one 0xCF#8) "IRET" [] (.plain [])))

/-- The rows D0 to D7: shift groups by 1 and by CL, AAM, AAD, XLAT. For every state in which a row is served
and every operand field, each row answers the next state whose response is the Instruction of R241: the
descriptor of the row, the length with the opcode byte and the fields consumed, the two attributes, the
operands of the row's specs in declared order and the recorded prefixes; the latches are those of the
finished request and everything else is unchanged. (47_onebyte_D0_DF.md R501 to R534; 43_decoder.md R240;
43_decoder.md R241). -/
def Obligations.RowsD0ToD7 : Prop :=
  ∀ (s : State) (l : Latches), Serving s l →
    (∀ (e : Rm), exec (.rol_D0_0 e) s = .next (answered s l (.one 0xD0#8) "ROL" [.E .b, .one] (.block 0#3 e []))) ∧
    (∀ (e : Rm), exec (.ror_D0_1 e) s = .next (answered s l (.one 0xD0#8) "ROR" [.E .b, .one] (.block 1#3 e []))) ∧
    (∀ (e : Rm), exec (.rcl_D0_2 e) s = .next (answered s l (.one 0xD0#8) "RCL" [.E .b, .one] (.block 2#3 e []))) ∧
    (∀ (e : Rm), exec (.rcr_D0_3 e) s = .next (answered s l (.one 0xD0#8) "RCR" [.E .b, .one] (.block 3#3 e []))) ∧
    (∀ (e : Rm), exec (.shl_D0_4 e) s = .next (answered s l (.one 0xD0#8) "SHL" [.E .b, .one] (.block 4#3 e []))) ∧
    (∀ (e : Rm), exec (.shr_D0_5 e) s = .next (answered s l (.one 0xD0#8) "SHR" [.E .b, .one] (.block 5#3 e []))) ∧
    (∀ (e : Rm), exec (.sar_D0_7 e) s = .next (answered s l (.one 0xD0#8) "SAR" [.E .b, .one] (.block 7#3 e []))) ∧
    (∀ (e : Rm), exec (.rol_D1_0 e) s = .next (answered s l (.one 0xD1#8) "ROL" [.E .v, .one] (.block 0#3 e []))) ∧
    (∀ (e : Rm), exec (.ror_D1_1 e) s = .next (answered s l (.one 0xD1#8) "ROR" [.E .v, .one] (.block 1#3 e []))) ∧
    (∀ (e : Rm), exec (.rcl_D1_2 e) s = .next (answered s l (.one 0xD1#8) "RCL" [.E .v, .one] (.block 2#3 e []))) ∧
    (∀ (e : Rm), exec (.rcr_D1_3 e) s = .next (answered s l (.one 0xD1#8) "RCR" [.E .v, .one] (.block 3#3 e []))) ∧
    (∀ (e : Rm), exec (.shl_D1_4 e) s = .next (answered s l (.one 0xD1#8) "SHL" [.E .v, .one] (.block 4#3 e []))) ∧
    (∀ (e : Rm), exec (.shr_D1_5 e) s = .next (answered s l (.one 0xD1#8) "SHR" [.E .v, .one] (.block 5#3 e []))) ∧
    (∀ (e : Rm), exec (.sar_D1_7 e) s = .next (answered s l (.one 0xD1#8) "SAR" [.E .v, .one] (.block 7#3 e []))) ∧
    (∀ (e : Rm), exec (.rol_D2_0 e) s = .next (answered s l (.one 0xD2#8) "ROL" [.E .b, .fixed .cl] (.block 0#3 e []))) ∧
    (∀ (e : Rm), exec (.ror_D2_1 e) s = .next (answered s l (.one 0xD2#8) "ROR" [.E .b, .fixed .cl] (.block 1#3 e []))) ∧
    (∀ (e : Rm), exec (.rcl_D2_2 e) s = .next (answered s l (.one 0xD2#8) "RCL" [.E .b, .fixed .cl] (.block 2#3 e []))) ∧
    (∀ (e : Rm), exec (.rcr_D2_3 e) s = .next (answered s l (.one 0xD2#8) "RCR" [.E .b, .fixed .cl] (.block 3#3 e []))) ∧
    (∀ (e : Rm), exec (.shl_D2_4 e) s = .next (answered s l (.one 0xD2#8) "SHL" [.E .b, .fixed .cl] (.block 4#3 e []))) ∧
    (∀ (e : Rm), exec (.shr_D2_5 e) s = .next (answered s l (.one 0xD2#8) "SHR" [.E .b, .fixed .cl] (.block 5#3 e []))) ∧
    (∀ (e : Rm), exec (.sar_D2_7 e) s = .next (answered s l (.one 0xD2#8) "SAR" [.E .b, .fixed .cl] (.block 7#3 e []))) ∧
    (∀ (e : Rm), exec (.rol_D3_0 e) s = .next (answered s l (.one 0xD3#8) "ROL" [.E .v, .fixed .cl] (.block 0#3 e []))) ∧
    (∀ (e : Rm), exec (.ror_D3_1 e) s = .next (answered s l (.one 0xD3#8) "ROR" [.E .v, .fixed .cl] (.block 1#3 e []))) ∧
    (∀ (e : Rm), exec (.rcl_D3_2 e) s = .next (answered s l (.one 0xD3#8) "RCL" [.E .v, .fixed .cl] (.block 2#3 e []))) ∧
    (∀ (e : Rm), exec (.rcr_D3_3 e) s = .next (answered s l (.one 0xD3#8) "RCR" [.E .v, .fixed .cl] (.block 3#3 e []))) ∧
    (∀ (e : Rm), exec (.shl_D3_4 e) s = .next (answered s l (.one 0xD3#8) "SHL" [.E .v, .fixed .cl] (.block 4#3 e []))) ∧
    (∀ (e : Rm), exec (.shr_D3_5 e) s = .next (answered s l (.one 0xD3#8) "SHR" [.E .v, .fixed .cl] (.block 5#3 e []))) ∧
    (∀ (e : Rm), exec (.sar_D3_7 e) s = .next (answered s l (.one 0xD3#8) "SAR" [.E .v, .fixed .cl] (.block 7#3 e []))) ∧
    (∀ (imm : BitVec 8), exec (.aam_D4 imm) s = .next (answered s l (.one 0xD4#8) "AAM" [.I .b] (.plain [.f8 imm]))) ∧
    (∀ (imm : BitVec 8), exec (.aad_D5 imm) s = .next (answered s l (.one 0xD5#8) "AAD" [.I .b] (.plain [.f8 imm]))) ∧
    (exec (.xlat_D7) s = .next (answered s l (.one 0xD7#8) "XLAT" [] (.plain [])))

/-- The rows E0 to FF: loops, I/O, calls and jumps, flags, Groups 3, 4 and 5. For every state in which a row
is served and every operand field, each row answers the next state whose response is the Instruction of
R241: the descriptor of the row, the length with the opcode byte and the fields consumed, the two
attributes, the operands of the row's specs in declared order and the recorded prefixes; the latches are
those of the finished request and everything else is unchanged. (48_onebyte_E0_FF.md R536 to R586;
43_decoder.md R240; 43_decoder.md R241). -/
def Obligations.RowsE0ToFF : Prop :=
  ∀ (s : State) (l : Latches), Serving s l →
    (∀ (rel : BitVec 8), exec (.loopne_E0 rel) s = .next (answered s l (.one 0xE0#8) "LOOPNE" [.J .b] (.plain [.f8 rel]))) ∧
    (∀ (rel : BitVec 8), exec (.loope_E1 rel) s = .next (answered s l (.one 0xE1#8) "LOOPE" [.J .b] (.plain [.f8 rel]))) ∧
    (∀ (rel : BitVec 8), exec (.loop_E2 rel) s = .next (answered s l (.one 0xE2#8) "LOOP" [.J .b] (.plain [.f8 rel]))) ∧
    (∀ (rel : BitVec 8), exec (.jcxz_E3 rel) s = .next (answered s l (.one 0xE3#8) "JCXZ" [.J .b] (.plain [.f8 rel]))) ∧
    (∀ (imm : BitVec 8), exec (.in_E4 imm) s = .next (answered s l (.one 0xE4#8) "IN" [.fixed .al, .I .b] (.plain [.f8 imm]))) ∧
    (∀ (imm : BitVec 8), exec (.in_E5 imm) s = .next (answered s l (.one 0xE5#8) "IN" [.fixed .eAX, .I .b] (.plain [.f8 imm]))) ∧
    (∀ (imm : BitVec 8), exec (.out_E6 imm) s = .next (answered s l (.one 0xE6#8) "OUT" [.I .b, .fixed .al] (.plain [.f8 imm]))) ∧
    (∀ (imm : BitVec 8), exec (.out_E7 imm) s = .next (answered s l (.one 0xE7#8) "OUT" [.I .b, .fixed .eAX] (.plain [.f8 imm]))) ∧
    (∀ (rel : Field), exec (.call_E8 rel) s = .next (answered s l (.one 0xE8#8) "CALL" [.J .v] (.plain [rel]))) ∧
    (∀ (rel : Field), exec (.jmp_E9 rel) s = .next (answered s l (.one 0xE9#8) "JMP" [.J .v] (.plain [rel]))) ∧
    (∀ (off : Field) (sel : BitVec 16), exec (.jmpf_EA off sel) s = .next (answered s l (.one 0xEA#8) "JMPF" [.I .v, .I .w] (.plain [off, .f16 sel]))) ∧
    (∀ (rel : BitVec 8), exec (.jmp_EB rel) s = .next (answered s l (.one 0xEB#8) "JMP" [.J .b] (.plain [.f8 rel]))) ∧
    (exec (.in_EC) s = .next (answered s l (.one 0xEC#8) "IN" [.fixed .al, .fixed .dx] (.plain []))) ∧
    (exec (.in_ED) s = .next (answered s l (.one 0xED#8) "IN" [.fixed .eAX, .fixed .dx] (.plain []))) ∧
    (exec (.out_EE) s = .next (answered s l (.one 0xEE#8) "OUT" [.fixed .dx, .fixed .al] (.plain []))) ∧
    (exec (.out_EF) s = .next (answered s l (.one 0xEF#8) "OUT" [.fixed .dx, .fixed .eAX] (.plain []))) ∧
    (exec (.hlt_F4) s = .next (answered s l (.one 0xF4#8) "HLT" [] (.plain []))) ∧
    (exec (.cmc_F5) s = .next (answered s l (.one 0xF5#8) "CMC" [] (.plain []))) ∧
    (∀ (e : Rm) (imm : BitVec 8), exec (.test_F6_0 e imm) s = .next (answered s l (.one 0xF6#8) "TEST" [.E .b, .I .b] (.block 0#3 e [.f8 imm]))) ∧
    (∀ (e : Rm), exec (.not_F6_2 e) s = .next (answered s l (.one 0xF6#8) "NOT" [.E .b] (.block 2#3 e []))) ∧
    (∀ (e : Rm), exec (.neg_F6_3 e) s = .next (answered s l (.one 0xF6#8) "NEG" [.E .b] (.block 3#3 e []))) ∧
    (∀ (e : Rm), exec (.mul_F6_4 e) s = .next (answered s l (.one 0xF6#8) "MUL" [.E .b] (.block 4#3 e []))) ∧
    (∀ (e : Rm), exec (.imul_F6_5 e) s = .next (answered s l (.one 0xF6#8) "IMUL" [.E .b] (.block 5#3 e []))) ∧
    (∀ (e : Rm), exec (.div_F6_6 e) s = .next (answered s l (.one 0xF6#8) "DIV" [.E .b] (.block 6#3 e []))) ∧
    (∀ (e : Rm), exec (.idiv_F6_7 e) s = .next (answered s l (.one 0xF6#8) "IDIV" [.E .b] (.block 7#3 e []))) ∧
    (∀ (e : Rm) (imm : Field), exec (.test_F7_0 e imm) s = .next (answered s l (.one 0xF7#8) "TEST" [.E .v, .I .v] (.block 0#3 e [imm]))) ∧
    (∀ (e : Rm), exec (.not_F7_2 e) s = .next (answered s l (.one 0xF7#8) "NOT" [.E .v] (.block 2#3 e []))) ∧
    (∀ (e : Rm), exec (.neg_F7_3 e) s = .next (answered s l (.one 0xF7#8) "NEG" [.E .v] (.block 3#3 e []))) ∧
    (∀ (e : Rm), exec (.mul_F7_4 e) s = .next (answered s l (.one 0xF7#8) "MUL" [.E .v] (.block 4#3 e []))) ∧
    (∀ (e : Rm), exec (.imul_F7_5 e) s = .next (answered s l (.one 0xF7#8) "IMUL" [.E .v] (.block 5#3 e []))) ∧
    (∀ (e : Rm), exec (.div_F7_6 e) s = .next (answered s l (.one 0xF7#8) "DIV" [.E .v] (.block 6#3 e []))) ∧
    (∀ (e : Rm), exec (.idiv_F7_7 e) s = .next (answered s l (.one 0xF7#8) "IDIV" [.E .v] (.block 7#3 e []))) ∧
    (exec (.clc_F8) s = .next (answered s l (.one 0xF8#8) "CLC" [] (.plain []))) ∧
    (exec (.stc_F9) s = .next (answered s l (.one 0xF9#8) "STC" [] (.plain []))) ∧
    (exec (.cli_FA) s = .next (answered s l (.one 0xFA#8) "CLI" [] (.plain []))) ∧
    (exec (.sti_FB) s = .next (answered s l (.one 0xFB#8) "STI" [] (.plain []))) ∧
    (exec (.cld_FC) s = .next (answered s l (.one 0xFC#8) "CLD" [] (.plain []))) ∧
    (exec (.std_FD) s = .next (answered s l (.one 0xFD#8) "STD" [] (.plain []))) ∧
    (∀ (e : Rm), exec (.inc_FE_0 e) s = .next (answered s l (.one 0xFE#8) "INC" [.E .b] (.block 0#3 e []))) ∧
    (∀ (e : Rm), exec (.dec_FE_1 e) s = .next (answered s l (.one 0xFE#8) "DEC" [.E .b] (.block 1#3 e []))) ∧
    (∀ (e : Rm), exec (.inc_FF_0 e) s = .next (answered s l (.one 0xFF#8) "INC" [.E .v] (.block 0#3 e []))) ∧
    (∀ (e : Rm), exec (.dec_FF_1 e) s = .next (answered s l (.one 0xFF#8) "DEC" [.E .v] (.block 1#3 e []))) ∧
    (∀ (e : Rm), exec (.call_FF_2 e) s = .next (answered s l (.one 0xFF#8) "CALL" [.E .v] (.block 2#3 e []))) ∧
    (∀ (e : Rm), exec (.callf_FF_3 e) s = .next (answered s l (.one 0xFF#8) "CALLF" [.M (some .p)] (.block 3#3 e []))) ∧
    (∀ (e : Rm), exec (.jmp_FF_4 e) s = .next (answered s l (.one 0xFF#8) "JMP" [.E .v] (.block 4#3 e []))) ∧
    (∀ (e : Rm), exec (.jmpf_FF_5 e) s = .next (answered s l (.one 0xFF#8) "JMPF" [.M (some .p)] (.block 5#3 e []))) ∧
    (∀ (e : Rm), exec (.push_FF_6 e) s = .next (answered s l (.one 0xFF#8) "PUSH" [.E .v] (.block 6#3 e [])))

/-- The two-byte rows 00 to 26: Groups 6 and 7, LAR, LSL, CLTS, control, debug and test registers. For every
state in which a row is served and every operand field, each row answers the next state whose response is
the Instruction of R241: the descriptor of the row, the length with the opcode byte and the fields
consumed, the two attributes, the operands of the row's specs in declared order and the recorded
prefixes; the latches are those of the finished request and everything else is unchanged.
(49_twobyte_0F.md R588 to R609; 42_addressing_resolver.md R197; 43_decoder.md R241). -/
def Obligations.TwoByteSystemRows : Prop :=
  ∀ (s : State) (l : Latches), Serving s l →
    (∀ (e : Rm), exec (.sldt_0F00_0 e) s = .next (answered s l (.two 0x00#8) "SLDT" [.E .w] (.block 0#3 e []))) ∧
    (∀ (e : Rm), exec (.str_0F00_1 e) s = .next (answered s l (.two 0x00#8) "STR" [.E .w] (.block 1#3 e []))) ∧
    (∀ (e : Rm), exec (.lldt_0F00_2 e) s = .next (answered s l (.two 0x00#8) "LLDT" [.E .w] (.block 2#3 e []))) ∧
    (∀ (e : Rm), exec (.ltr_0F00_3 e) s = .next (answered s l (.two 0x00#8) "LTR" [.E .w] (.block 3#3 e []))) ∧
    (∀ (e : Rm), exec (.verr_0F00_4 e) s = .next (answered s l (.two 0x00#8) "VERR" [.E .w] (.block 4#3 e []))) ∧
    (∀ (e : Rm), exec (.verw_0F00_5 e) s = .next (answered s l (.two 0x00#8) "VERW" [.E .w] (.block 5#3 e []))) ∧
    (∀ (e : Rm), exec (.sgdt_0F01_0 e) s = .next (answered s l (.two 0x01#8) "SGDT" [.M (some .s)] (.block 0#3 e []))) ∧
    (∀ (e : Rm), exec (.sidt_0F01_1 e) s = .next (answered s l (.two 0x01#8) "SIDT" [.M (some .s)] (.block 1#3 e []))) ∧
    (∀ (e : Rm), exec (.lgdt_0F01_2 e) s = .next (answered s l (.two 0x01#8) "LGDT" [.M (some .s)] (.block 2#3 e []))) ∧
    (∀ (e : Rm), exec (.lidt_0F01_3 e) s = .next (answered s l (.two 0x01#8) "LIDT" [.M (some .s)] (.block 3#3 e []))) ∧
    (∀ (e : Rm), exec (.smsw_0F01_4 e) s = .next (answered s l (.two 0x01#8) "SMSW" [.E .w] (.block 4#3 e []))) ∧
    (∀ (e : Rm), exec (.lmsw_0F01_6 e) s = .next (answered s l (.two 0x01#8) "LMSW" [.E .w] (.block 6#3 e []))) ∧
    (∀ (reg : BitVec 3) (e : Rm), exec (.lar_0F02 reg e) s = .next (answered s l (.two 0x02#8) "LAR" [.G .v, .E .w] (.block reg e []))) ∧
    (∀ (reg : BitVec 3) (e : Rm), exec (.lsl_0F03 reg e) s = .next (answered s l (.two 0x03#8) "LSL" [.G .v, .E .w] (.block reg e []))) ∧
    (exec (.clts_0F06) s = .next (answered s l (.two 0x06#8) "CLTS" [] (.plain []))) ∧
    (∀ (mod : BitVec 2) (reg : BitVec 3) (rm : BitVec 3), exec (.mov_0F20 mod reg rm) s = .next (answered s l (.two 0x20#8) "MOV" [.R .d, .C .d] (.lone mod reg rm))) ∧
    (∀ (mod : BitVec 2) (reg : BitVec 3) (rm : BitVec 3), exec (.mov_0F21 mod reg rm) s = .next (answered s l (.two 0x21#8) "MOV" [.R .d, .D .d] (.lone mod reg rm))) ∧
    (∀ (mod : BitVec 2) (reg : BitVec 3) (rm : BitVec 3), exec (.mov_0F22 mod reg rm) s = .next (answered s l (.two 0x22#8) "MOV" [.C .d, .R .d] (.lone mod reg rm))) ∧
    (∀ (mod : BitVec 2) (reg : BitVec 3) (rm : BitVec 3), exec (.mov_0F23 mod reg rm) s = .next (answered s l (.two 0x23#8) "MOV" [.D .d, .R .d] (.lone mod reg rm))) ∧
    (∀ (mod : BitVec 2) (reg : BitVec 3) (rm : BitVec 3), exec (.mov_0F24 mod reg rm) s = .next (answered s l (.two 0x24#8) "MOV" [.R .d, .T .d] (.lone mod reg rm))) ∧
    (∀ (mod : BitVec 2) (reg : BitVec 3) (rm : BitVec 3), exec (.mov_0F26 mod reg rm) s = .next (answered s l (.two 0x26#8) "MOV" [.T .d, .R .d] (.lone mod reg rm)))

/-- The two-byte rows 80 to BF: near conditional jumps, SETcc, FS and GS, bit tests, double shifts, far
pointers, MOVZX, MOVSX. For every state in which a row is served and every operand field, each row
answers the next state whose response is the Instruction of R241: the descriptor of the row, the length
with the opcode byte and the fields consumed, the two attributes, the operands of the row's specs in
declared order and the recorded prefixes; the latches are those of the finished request and everything
else is unchanged. (49_twobyte_0F.md R610 to R668; 43_decoder.md R240; 43_decoder.md R241). -/
def Obligations.TwoByteRows80ToBF : Prop :=
  ∀ (s : State) (l : Latches), Serving s l →
    (∀ (rel : Field), exec (.jo_0F80 rel) s = .next (answered s l (.two 0x80#8) "JO" [.J .v] (.plain [rel]))) ∧
    (∀ (rel : Field), exec (.jno_0F81 rel) s = .next (answered s l (.two 0x81#8) "JNO" [.J .v] (.plain [rel]))) ∧
    (∀ (rel : Field), exec (.jb_0F82 rel) s = .next (answered s l (.two 0x82#8) "JB" [.J .v] (.plain [rel]))) ∧
    (∀ (rel : Field), exec (.jnb_0F83 rel) s = .next (answered s l (.two 0x83#8) "JNB" [.J .v] (.plain [rel]))) ∧
    (∀ (rel : Field), exec (.jz_0F84 rel) s = .next (answered s l (.two 0x84#8) "JZ" [.J .v] (.plain [rel]))) ∧
    (∀ (rel : Field), exec (.jnz_0F85 rel) s = .next (answered s l (.two 0x85#8) "JNZ" [.J .v] (.plain [rel]))) ∧
    (∀ (rel : Field), exec (.jbe_0F86 rel) s = .next (answered s l (.two 0x86#8) "JBE" [.J .v] (.plain [rel]))) ∧
    (∀ (rel : Field), exec (.jnbe_0F87 rel) s = .next (answered s l (.two 0x87#8) "JNBE" [.J .v] (.plain [rel]))) ∧
    (∀ (rel : Field), exec (.js_0F88 rel) s = .next (answered s l (.two 0x88#8) "JS" [.J .v] (.plain [rel]))) ∧
    (∀ (rel : Field), exec (.jns_0F89 rel) s = .next (answered s l (.two 0x89#8) "JNS" [.J .v] (.plain [rel]))) ∧
    (∀ (rel : Field), exec (.jp_0F8A rel) s = .next (answered s l (.two 0x8A#8) "JP" [.J .v] (.plain [rel]))) ∧
    (∀ (rel : Field), exec (.jnp_0F8B rel) s = .next (answered s l (.two 0x8B#8) "JNP" [.J .v] (.plain [rel]))) ∧
    (∀ (rel : Field), exec (.jl_0F8C rel) s = .next (answered s l (.two 0x8C#8) "JL" [.J .v] (.plain [rel]))) ∧
    (∀ (rel : Field), exec (.jnl_0F8D rel) s = .next (answered s l (.two 0x8D#8) "JNL" [.J .v] (.plain [rel]))) ∧
    (∀ (rel : Field), exec (.jle_0F8E rel) s = .next (answered s l (.two 0x8E#8) "JLE" [.J .v] (.plain [rel]))) ∧
    (∀ (rel : Field), exec (.jnle_0F8F rel) s = .next (answered s l (.two 0x8F#8) "JNLE" [.J .v] (.plain [rel]))) ∧
    (∀ (reg : BitVec 3) (e : Rm), exec (.seto_0F90 reg e) s = .next (answered s l (.two 0x90#8) "SETO" [.E .b] (.block reg e []))) ∧
    (∀ (reg : BitVec 3) (e : Rm), exec (.setno_0F91 reg e) s = .next (answered s l (.two 0x91#8) "SETNO" [.E .b] (.block reg e []))) ∧
    (∀ (reg : BitVec 3) (e : Rm), exec (.setb_0F92 reg e) s = .next (answered s l (.two 0x92#8) "SETB" [.E .b] (.block reg e []))) ∧
    (∀ (reg : BitVec 3) (e : Rm), exec (.setnb_0F93 reg e) s = .next (answered s l (.two 0x93#8) "SETNB" [.E .b] (.block reg e []))) ∧
    (∀ (reg : BitVec 3) (e : Rm), exec (.setz_0F94 reg e) s = .next (answered s l (.two 0x94#8) "SETZ" [.E .b] (.block reg e []))) ∧
    (∀ (reg : BitVec 3) (e : Rm), exec (.setnz_0F95 reg e) s = .next (answered s l (.two 0x95#8) "SETNZ" [.E .b] (.block reg e []))) ∧
    (∀ (reg : BitVec 3) (e : Rm), exec (.setbe_0F96 reg e) s = .next (answered s l (.two 0x96#8) "SETBE" [.E .b] (.block reg e []))) ∧
    (∀ (reg : BitVec 3) (e : Rm), exec (.setnbe_0F97 reg e) s = .next (answered s l (.two 0x97#8) "SETNBE" [.E .b] (.block reg e []))) ∧
    (∀ (reg : BitVec 3) (e : Rm), exec (.sets_0F98 reg e) s = .next (answered s l (.two 0x98#8) "SETS" [.E .b] (.block reg e []))) ∧
    (∀ (reg : BitVec 3) (e : Rm), exec (.setns_0F99 reg e) s = .next (answered s l (.two 0x99#8) "SETNS" [.E .b] (.block reg e []))) ∧
    (∀ (reg : BitVec 3) (e : Rm), exec (.setp_0F9A reg e) s = .next (answered s l (.two 0x9A#8) "SETP" [.E .b] (.block reg e []))) ∧
    (∀ (reg : BitVec 3) (e : Rm), exec (.setnp_0F9B reg e) s = .next (answered s l (.two 0x9B#8) "SETNP" [.E .b] (.block reg e []))) ∧
    (∀ (reg : BitVec 3) (e : Rm), exec (.setl_0F9C reg e) s = .next (answered s l (.two 0x9C#8) "SETL" [.E .b] (.block reg e []))) ∧
    (∀ (reg : BitVec 3) (e : Rm), exec (.setnl_0F9D reg e) s = .next (answered s l (.two 0x9D#8) "SETNL" [.E .b] (.block reg e []))) ∧
    (∀ (reg : BitVec 3) (e : Rm), exec (.setle_0F9E reg e) s = .next (answered s l (.two 0x9E#8) "SETLE" [.E .b] (.block reg e []))) ∧
    (∀ (reg : BitVec 3) (e : Rm), exec (.setnle_0F9F reg e) s = .next (answered s l (.two 0x9F#8) "SETNLE" [.E .b] (.block reg e []))) ∧
    (exec (.push_0FA0) s = .next (answered s l (.two 0xA0#8) "PUSH" [.fixed (.seg .fs)] (.plain []))) ∧
    (exec (.pop_0FA1) s = .next (answered s l (.two 0xA1#8) "POP" [.fixed (.seg .fs)] (.plain []))) ∧
    (∀ (reg : BitVec 3) (e : Rm), exec (.bt_0FA3 reg e) s = .next (answered s l (.two 0xA3#8) "BT" [.E .v, .G .v] (.block reg e []))) ∧
    (∀ (reg : BitVec 3) (e : Rm) (imm : BitVec 8), exec (.shld_0FA4 reg e imm) s = .next (answered s l (.two 0xA4#8) "SHLD" [.E .v, .G .v, .I .b] (.block reg e [.f8 imm]))) ∧
    (∀ (reg : BitVec 3) (e : Rm), exec (.shld_0FA5 reg e) s = .next (answered s l (.two 0xA5#8) "SHLD" [.E .v, .G .v, .fixed .cl] (.block reg e []))) ∧
    (exec (.push_0FA8) s = .next (answered s l (.two 0xA8#8) "PUSH" [.fixed (.seg .gs)] (.plain []))) ∧
    (exec (.pop_0FA9) s = .next (answered s l (.two 0xA9#8) "POP" [.fixed (.seg .gs)] (.plain []))) ∧
    (∀ (reg : BitVec 3) (e : Rm), exec (.bts_0FAB reg e) s = .next (answered s l (.two 0xAB#8) "BTS" [.E .v, .G .v] (.block reg e []))) ∧
    (∀ (reg : BitVec 3) (e : Rm) (imm : BitVec 8), exec (.shrd_0FAC reg e imm) s = .next (answered s l (.two 0xAC#8) "SHRD" [.E .v, .G .v, .I .b] (.block reg e [.f8 imm]))) ∧
    (∀ (reg : BitVec 3) (e : Rm), exec (.shrd_0FAD reg e) s = .next (answered s l (.two 0xAD#8) "SHRD" [.E .v, .G .v, .fixed .cl] (.block reg e []))) ∧
    (∀ (reg : BitVec 3) (e : Rm), exec (.imul_0FAF reg e) s = .next (answered s l (.two 0xAF#8) "IMUL" [.G .v, .E .v] (.block reg e []))) ∧
    (∀ (reg : BitVec 3) (e : Rm), exec (.lss_0FB2 reg e) s = .next (answered s l (.two 0xB2#8) "LSS" [.G .v, .M (some .p)] (.block reg e []))) ∧
    (∀ (reg : BitVec 3) (e : Rm), exec (.btr_0FB3 reg e) s = .next (answered s l (.two 0xB3#8) "BTR" [.E .v, .G .v] (.block reg e []))) ∧
    (∀ (reg : BitVec 3) (e : Rm), exec (.lfs_0FB4 reg e) s = .next (answered s l (.two 0xB4#8) "LFS" [.G .v, .M (some .p)] (.block reg e []))) ∧
    (∀ (reg : BitVec 3) (e : Rm), exec (.lgs_0FB5 reg e) s = .next (answered s l (.two 0xB5#8) "LGS" [.G .v, .M (some .p)] (.block reg e []))) ∧
    (∀ (reg : BitVec 3) (e : Rm), exec (.movzx_0FB6 reg e) s = .next (answered s l (.two 0xB6#8) "MOVZX" [.G .v, .E .b] (.block reg e []))) ∧
    (∀ (reg : BitVec 3) (e : Rm), exec (.movzx_0FB7 reg e) s = .next (answered s l (.two 0xB7#8) "MOVZX" [.G .v, .E .w] (.block reg e []))) ∧
    (∀ (e : Rm) (imm : BitVec 8), exec (.bt_0FBA_4 e imm) s = .next (answered s l (.two 0xBA#8) "BT" [.E .v, .I .b] (.block 4#3 e [.f8 imm]))) ∧
    (∀ (e : Rm) (imm : BitVec 8), exec (.bts_0FBA_5 e imm) s = .next (answered s l (.two 0xBA#8) "BTS" [.E .v, .I .b] (.block 5#3 e [.f8 imm]))) ∧
    (∀ (e : Rm) (imm : BitVec 8), exec (.btr_0FBA_6 e imm) s = .next (answered s l (.two 0xBA#8) "BTR" [.E .v, .I .b] (.block 6#3 e [.f8 imm]))) ∧
    (∀ (e : Rm) (imm : BitVec 8), exec (.btc_0FBA_7 e imm) s = .next (answered s l (.two 0xBA#8) "BTC" [.E .v, .I .b] (.block 7#3 e [.f8 imm]))) ∧
    (∀ (reg : BitVec 3) (e : Rm), exec (.btc_0FBB reg e) s = .next (answered s l (.two 0xBB#8) "BTC" [.E .v, .G .v] (.block reg e []))) ∧
    (∀ (reg : BitVec 3) (e : Rm), exec (.bsf_0FBC reg e) s = .next (answered s l (.two 0xBC#8) "BSF" [.G .v, .E .v] (.block reg e []))) ∧
    (∀ (reg : BitVec 3) (e : Rm), exec (.bsr_0FBD reg e) s = .next (answered s l (.two 0xBD#8) "BSR" [.G .v, .E .v] (.block reg e []))) ∧
    (∀ (reg : BitVec 3) (e : Rm), exec (.movsx_0FBE reg e) s = .next (answered s l (.two 0xBE#8) "MOVSX" [.G .v, .E .b] (.block reg e []))) ∧
    (∀ (reg : BitVec 3) (e : Rm), exec (.movsx_0FBF reg e) s = .next (answered s l (.two 0xBF#8) "MOVSX" [.G .v, .E .w] (.block reg e [])))

end
end

