-- ==== Sys2Proof/Laws/Fields.lean ====
section
/-!
SUPPORT. Encoded fields: ModRM and SIB bytes, little-endian fields and the whole field block read back what
was written, and every reader gives a field of the size it was asked for.
-/

namespace Sys2Proof

@[simp] theorem ModRM.ofByte_toByte (m : ModRM) : ModRM.ofByte m.toByte = m := by
  obtain ⟨a, b, c⟩ := m
  simp only [ModRM.ofByte, ModRM.toByte, ModRM.mk.injEq]
  revert a b c; decide

@[simp] theorem ModRM.toByte_ofByte (b : Byte) : (ModRM.ofByte b).toByte = b := by
  revert b; decide

@[simp] theorem Sib.ofByte_toByte (s : Sib) : Sib.ofByte s.toByte = s := by
  obtain ⟨a, b, c⟩ := s
  simp only [Sib.ofByte, Sib.toByte, Sib.mk.injEq]
  revert a b c; decide

@[simp] theorem Sib.toByte_ofByte (b : Byte) : (Sib.ofByte b).toByte = b := by
  revert b; decide

@[simp] theorem Field.length_bytes (f : Field) : f.bytes.length = f.size := by
  cases f <;> rfl

/-! ## Splitting and joining bytes -/

theorem join16 (v : BitVec 16) : v.extractLsb' 8 8 ++ v.extractLsb' 0 8 = v := by
  apply BitVec.eq_of_getLsbD_eq
  intro i hi
  simp only [BitVec.getLsbD_append, BitVec.getLsbD_extractLsb']
  by_cases h : i < 8
  · simp [h]
  · simp [h, show i - 8 < 8 by omega, show 8 + (i - 8) = i by omega]

theorem join32 (v : BitVec 32) :
    v.extractLsb' 24 8 ++ v.extractLsb' 16 8 ++ v.extractLsb' 8 8 ++ v.extractLsb' 0 8 = v := by
  apply BitVec.eq_of_getLsbD_eq
  intro i hi
  simp only [BitVec.getLsbD_append, BitVec.getLsbD_extractLsb']
  by_cases h : i < 8
  · simp [h]
  by_cases h1 : i < 16
  · simp [h, show i - 8 < 8 by omega, show 8 + (i - 8) = i by omega]
  by_cases h2 : i < 24
  · simp [h, show ¬ i - 8 < 8 by omega, show i - 8 - 8 < 8 by omega, show 16 + (i - 8 - 8) = i by omega]
  · simp [h, show ¬ i - 8 < 8 by omega, show ¬ i - 8 - 8 < 8 by omega, show i - 8 - 8 - 8 < 8 by omega,
      show 24 + (i - 8 - 8 - 8) = i by omega]

theorem byte_low {w : Nat} (a : BitVec w) (b : Byte) : (a ++ b).extractLsb' 0 8 = b := by
  apply BitVec.eq_of_getLsbD_eq
  intro i hi
  simp only [BitVec.getLsbD_extractLsb', BitVec.getLsbD_append]
  simp [hi]

theorem byte_skip {w : Nat} (a : BitVec w) (b : Byte) (n : Nat) :
    (a ++ b).extractLsb' (n + 8) 8 = a.extractLsb' n 8 := by
  apply BitVec.eq_of_getLsbD_eq
  intro i hi
  simp only [BitVec.getLsbD_extractLsb', BitVec.getLsbD_append]
  rw [if_neg (by omega), show n + 8 + i - 8 = n + i by omega]

theorem byte_skip0 {w : Nat} (a : BitVec w) (b : Byte) : (a ++ b).extractLsb' 8 8 = a.extractLsb' 0 8 :=
  byte_skip a b 0

theorem byte_skip8 {w : Nat} (a : BitVec w) (b : Byte) : (a ++ b).extractLsb' 16 8 = a.extractLsb' 8 8 :=
  byte_skip a b 8

theorem byte_skip16 {w : Nat} (a : BitVec w) (b : Byte) : (a ++ b).extractLsb' 24 8 = a.extractLsb' 16 8 :=
  byte_skip a b 16

/-! ## Fields -/

/-- A field is read back from its own bytes (R72). -/
theorem takeField_bytes (f : Field) (rest : List Byte) : takeField f.size (f.bytes ++ rest) = some (f, rest) := by
  cases f with
  | absent => rfl
  | f8 v => rfl
  | f16 v => simp [Field.size, Field.bytes, takeField, join16]
  | f32 v => simp [Field.size, Field.bytes, takeField, join32]

/-- Whatever is read has the size asked for, and is the bytes it came from. -/
theorem takeField_eq_some {n : Nat} {bs rest : List Byte} {f : Field} (h : takeField n bs = some (f, rest)) :
    f.size = n ∧ bs = f.bytes ++ rest := by
  unfold takeField at h
  split at h
  all_goals first | (simp only [Option.some.injEq, Prod.mk.injEq] at h; obtain ⟨rfl, rfl⟩ := h) | cases h
  · exact ⟨rfl, rfl⟩
  · exact ⟨rfl, rfl⟩
  · exact ⟨rfl, by simp [Field.bytes, byte_low, byte_skip0]⟩
  · exact ⟨rfl, by simp [Field.bytes, byte_low, byte_skip0, byte_skip8, byte_skip16]⟩

/-- A field is missing exactly when fewer bytes are left than it has (R75), for the sizes that exist. -/
theorem takeField_eq_none {n : Nat} (hn : n = 0 ∨ n = 1 ∨ n = 2 ∨ n = 4) (bs : List Byte) :
    takeField n bs = none ↔ bs.length < n := by
  rcases hn with rfl | rfl | rfl | rfl
  · simp [takeField]
  · cases bs <;> simp [takeField]
  · match bs with
    | [] => simp [takeField]
    | [_] => simp [takeField]
    | _ :: _ :: _ => simp [takeField]
  · match bs with
    | [] => simp [takeField]
    | [_] => simp [takeField]
    | [_, _] => simp [takeField]
    | [_, _, _] => simp [takeField]
    | _ :: _ :: _ :: _ :: _ => simp [takeField]

@[simp] theorem Fields.length_bytes (f : Fields) : f.bytes.length = f.size := by
  obtain ⟨m, s, d, t⟩ := f
  have ht : (t.flatMap Field.bytes).length = (t.map Field.size).sum := by
    simp only [List.length_flatMap, Field.length_bytes]
  cases m <;> cases s <;> simp [Fields.bytes, Fields.size, ht] <;> omega

/-! ## Sizes -/

theorem dispSize16_cases (mod : BitVec 2) (rm : BitVec 3) :
    dispSize16 mod rm = 0 ∨ dispSize16 mod rm = 1 ∨ dispSize16 mod rm = 2 ∨ dispSize16 mod rm = 4 := by
  unfold dispSize16; split <;> (try split) <;> (try split) <;> simp

theorem dispSize32_cases (mod : BitVec 2) (base : BitVec 3) :
    dispSize32 mod base = 0 ∨ dispSize32 mod base = 1 ∨ dispSize32 mod base = 2 ∨ dispSize32 mod base = 4 := by
  unfold dispSize32; split <;> (try split) <;> (try split) <;> simp

theorem immSize_cases (w : Width) (t : OpType) :
    immSize w t = 0 ∨ immSize w t = 1 ∨ immSize w t = 2 ∨ immSize w t = 4 := by
  cases t <;> cases w <;> simp [immSize, Width.bytes]

/-- A displacement or trailing field of the size its spec asks for is one of the four sizes of R9. -/
theorem Field.size_cases (f : Field) : f.size = 0 ∨ f.size = 1 ∨ f.size = 2 ∨ f.size = 4 := by
  cases f <;> simp [Field.size]

/-- A field's value fits its size (R202). -/
theorem Field.value_lt (f : Field) : f.value < 2 ^ (8 * f.size) := by
  cases f <;> simp only [Field.value, Field.size] <;> first | decide | exact BitVec.isLt _

end Sys2Proof
end

