-- ==== Sys2Proof/Laws/Decode.lean ====
section
/-!
SUPPORT. The readers said once: whatever they accept is the bytes of fields with the shape the spec gives
them, and bytes of that shape are read back. `FieldsFit` is that shape.
-/

namespace Sys2Proof

/-! ## Shapes -/

/-- The SIB byte and the displacement a memory part has (R185 to R187). -/
def MemoryFits (asz : Width) (m : ModRM) (sib : Option Sib) (disp : Field) : Prop :=
  match asz with
  | .s16 => sib = none ∧ disp.size = dispSize16 m.mod m.rm
  | .s32 =>
    if m.rm = 4#3 then ∃ s, sib = some s ∧ disp.size = dispSize32 m.mod s.base
    else sib = none ∧ disp.size = dispSize32 m.mod m.rm

/-- The trailing fields a list of specs has (R124). -/
def TrailingFits (a : Attrs) : List Spec → List Field → Prop
  | [], fs => fs = []
  | sp :: sps, fs =>
    match sp.trailing? a with
    | none => TrailingFits a sps fs
    | some (n, _) => ∃ f fs', fs = f :: fs' ∧ f.size = n ∧ TrailingFits a sps fs'

/-- The fields of a final descriptor (R183, R184, R198, R124). -/
structure FieldsFit (a : Attrs) (inGroup : Bool) (d : OpcodeDescriptor) (f : Fields) : Prop where
  block : if needsModRM inGroup d then
      ∃ m, f.modrm = some m ∧ segmentMissing d m = false ∧
        (if needsMemory d m then MemoryFits a.asz m f.sib f.disp else f.sib = none ∧ f.disp = .absent)
    else f.modrm = none ∧ f.sib = none ∧ f.disp = .absent
  trailing : TrailingFits a d.specs f.trailing

/-! ## Accepted bytes have the shape -/

theorem readField_ok {field : FailField} {n pos : Nat} {bs rest : List Byte} {f : Field}
    (h : readField field n pos bs = .ok (f, rest)) : f.size = n ∧ bs = f.bytes ++ rest := by
  unfold readField at h
  split at h
  · rename_i r hr; cases h; exact takeField_eq_some hr
  · cases h

theorem readDisp_ok {sib sib' : Option Sib} {n pos : Nat} {bs rest : List Byte} {f : Field}
    (h : readDisp sib n pos bs = .ok ((sib', f), rest)) : sib' = sib ∧ f.size = n ∧ bs = f.bytes ++ rest := by
  unfold readDisp at h
  split at h
  · rename_i hr; cases h; exact ⟨rfl, readField_ok hr⟩
  · cases h

theorem sibFollows_s32 (rm : BitVec 3) : sibFollows .s32 rm = decide (rm = 4#3) := by
  simp [sibFollows]

theorem readMemory_ok {asz : Width} {m : ModRM} {pos : Nat} {bs rest : List Byte} {sib : Option Sib}
    {f : Field} (h : readMemory asz m pos bs = .ok ((sib, f), rest)) :
    MemoryFits asz m sib f ∧ bs = (sib.map Sib.toByte).toList ++ f.bytes ++ rest := by
  unfold readMemory at h
  cases asz with
  | s16 =>
    obtain ⟨rfl, h1, h2⟩ := readDisp_ok h
    exact ⟨⟨rfl, h1⟩, by simpa using h2⟩
  | s32 =>
    simp only [sibFollows_s32, decide_eq_true_eq] at h
    split at h
    · rename_i hrm
      split at h
      · cases h
      · obtain ⟨rfl, h1, h2⟩ := readDisp_ok h
        refine ⟨?_, by simp [h2]⟩
        simp only [MemoryFits, if_pos hrm]
        exact ⟨_, rfl, h1⟩
    · rename_i hrm
      obtain ⟨rfl, h1, h2⟩ := readDisp_ok h
      refine ⟨?_, by simp [h2]⟩
      simp only [MemoryFits, if_neg hrm]
      exact ⟨trivial, h1⟩

theorem readTrailing_ok {a : Attrs} {specs : List Spec} {pos : Nat} {bs rest : List Byte} {fs : List Field}
    (h : readTrailing a specs pos bs = .ok (fs, rest)) :
    TrailingFits a specs fs ∧ bs = fs.flatMap Field.bytes ++ rest := by
  induction specs generalizing pos bs fs with
  | nil => cases h; exact ⟨rfl, rfl⟩
  | cons sp sps ih =>
    unfold readTrailing at h
    cases ht : sp.trailing? a with
    | none =>
      rw [ht] at h
      obtain ⟨h1, h2⟩ := ih h
      exact ⟨by simp only [TrailingFits, ht]; exact h1, h2⟩
    | some nf =>
      obtain ⟨n, field⟩ := nf
      rw [ht] at h
      simp only at h
      split at h
      · cases h
      · rename_i f rest1 hf
        split at h
        · cases h
        · rename_i fs' rest2 hr
          cases h
          obtain ⟨h1, h2⟩ := readField_ok hf
          obtain ⟨h3, h4⟩ := ih hr
          refine ⟨?_, by simp [h2, h4]⟩
          simp only [TrailingFits, ht]
          exact ⟨_, _, rfl, h1, h3⟩

theorem readRest_ok {a : Attrs} {d : OpcodeDescriptor} {m : Option ModRM} {sib : Option Sib} {disp : Field}
    {pos : Nat} {bs rest : List Byte} {f : Fields} (h : readRest a d m sib disp pos bs = .ok (f, rest)) :
    f.modrm = m ∧ f.sib = sib ∧ f.disp = disp ∧ TrailingFits a d.specs f.trailing ∧
      bs = f.trailing.flatMap Field.bytes ++ rest := by
  unfold readRest at h
  split at h
  · rename_i hr; cases h; exact ⟨rfl, rfl, rfl, readTrailing_ok hr⟩
  · cases h

/-- Whatever the decoder reads after an opcode byte has the shape of the descriptor, and is the bytes of
its fields. -/
theorem readFields_ok {a : Attrs} {k : Key} {g : Bool} {d : OpcodeDescriptor} {pos : Nat}
    {bs rest : List Byte} {f : Fields} (h : readFields a k g d pos bs = .ok (f, rest)) :
    FieldsFit a g d f ∧ bs = f.bytes ++ rest := by
  unfold readFields at h
  split at h
  · rename_i hn
    split at h
    · cases h
    · rename_i b bs'
      simp only at h
      split at h
      · cases h
      · rename_i hs
        simp only [Bool.not_eq_true] at hs
        split at h
        · rename_i hm
          split at h
          · cases h
          · rename_i sib disp rest1 hr
            obtain ⟨h1, h2⟩ := readMemory_ok hr
            obtain ⟨e1, e2, e3, h3, h4⟩ := readRest_ok h
            refine ⟨⟨?_, h3⟩, ?_⟩
            · rw [if_pos hn]
              refine ⟨_, e1, hs, ?_⟩
              rw [if_pos hm, e2, e3]; exact h1
            · simp [Fields.bytes, e1, e2, e3, h2, h4]
        · rename_i hm
          obtain ⟨e1, e2, e3, h3, h4⟩ := readRest_ok h
          refine ⟨⟨?_, h3⟩, ?_⟩
          · rw [if_pos hn]
            refine ⟨_, e1, hs, ?_⟩
            rw [if_neg hm]; exact ⟨e2, e3⟩
          · simp [Fields.bytes, e1, e2, e3, h4, Field.bytes]
  · rename_i hn
    obtain ⟨e1, e2, e3, h3, h4⟩ := readRest_ok h
    refine ⟨⟨?_, h3⟩, ?_⟩
    · rw [if_neg hn]; exact ⟨e1, e2, e3⟩
    · simp [Fields.bytes, e1, e2, e3, h4, Field.bytes]

/-! ## Bytes of the shape are read back -/

theorem readField_bytes (field : FailField) (pos : Nat) (f : Field) (rest : List Byte) :
    readField field f.size pos (f.bytes ++ rest) = .ok (f, rest) := by
  simp [readField, takeField_bytes]

theorem readMemory_bytes {asz : Width} {m : ModRM} {sib : Option Sib} {f : Field}
    (h : MemoryFits asz m sib f) (pos : Nat) (rest : List Byte) :
    readMemory asz m pos ((sib.map Sib.toByte).toList ++ f.bytes ++ rest) = .ok ((sib, f), rest) := by
  cases asz with
  | s16 =>
    obtain ⟨rfl, h1⟩ := h
    simp [readMemory, readDisp, ← h1, readField_bytes]
  | s32 =>
    simp only [MemoryFits] at h
    split at h
    · rename_i hrm
      obtain ⟨s, rfl, h1⟩ := h
      simp [readMemory, sibFollows_s32, hrm, readDisp, ← h1, readField_bytes]
    · rename_i hrm
      obtain ⟨rfl, h1⟩ := h
      simp [readMemory, sibFollows_s32, hrm, readDisp, ← h1, readField_bytes]

theorem readTrailing_bytes {a : Attrs} {specs : List Spec} {fs : List Field} (h : TrailingFits a specs fs)
    (pos : Nat) (rest : List Byte) :
    readTrailing a specs pos (fs.flatMap Field.bytes ++ rest) = .ok (fs, rest) := by
  induction specs generalizing pos fs with
  | nil => cases h; rfl
  | cons sp sps ih =>
    unfold readTrailing
    cases ht : sp.trailing? a with
    | none =>
      simp only [TrailingFits, ht] at h
      exact ih h pos
    | some nf =>
      obtain ⟨n, field⟩ := nf
      simp only [TrailingFits, ht] at h
      obtain ⟨f, fs', rfl, rfl, h1⟩ := h
      simp [readField_bytes, ih h1]

/-- Fields of the descriptor's shape are read back from their bytes, whatever follows. -/
theorem readFields_bytes {a : Attrs} {g : Bool} {d : OpcodeDescriptor} {f : Fields}
    (h : FieldsFit a g d f) (k : Key) (pos : Nat) (rest : List Byte) :
    readFields a k g d pos (f.bytes ++ rest) = .ok (f, rest) := by
  obtain ⟨hb, ht⟩ := h
  obtain ⟨modrm, sib, disp, trailing⟩ := f
  unfold readFields
  split at hb
  · rename_i hn
    obtain ⟨m, rfl, hs, hm⟩ := hb
    rw [if_pos hn]
    simp only [Fields.bytes, Option.map_some, Option.toList_some, List.cons_append, List.nil_append,
      ModRM.ofByte_toByte, hs, Bool.false_eq_true, if_false]
    split at hm
    · rename_i hm'
      rw [if_pos hm']
      have := readMemory_bytes hm (pos + 1) (trailing.flatMap Field.bytes ++ rest)
      simp only [List.append_assoc] at this ⊢
      rw [this]
      simp [readRest, readTrailing_bytes ht]
    · rename_i hm'
      obtain ⟨rfl, rfl⟩ := hm
      rw [if_neg hm']
      simp [readRest, readTrailing_bytes ht, Field.bytes]
  · rename_i hn
    obtain ⟨rfl, rfl, rfl⟩ := hb
    rw [if_neg hn]
    simp [Fields.bytes, readRest, readTrailing_bytes ht, Field.bytes]

end Sys2Proof
end

