-- ==== Sys2Proof/Laws/State.lean ====
section
/-!
SUPPORT. One lemma per field of State for each named update, and what each operation on the latches leaves
alone, so that no later proof unfolds a record update.
-/

namespace Sys2Proof.Machine

variable (s : State) (r : Request) (l : Latches) (k : FailKind) (p : Nat) (fl : FailField) (bs : List Byte)

/-! ## present -/

@[simp] theorem State.present_params : (s.present r).params = s.params := rfl
@[simp] theorem State.present_opcodeTable : (s.present r).opcodeTable = s.opcodeTable := rfl
@[simp] theorem State.present_registerTable : (s.present r).registerTable = s.registerTable := rfl
@[simp] theorem State.present_initialized : (s.present r).initialized = s.initialized := rfl
@[simp] theorem State.present_request : (s.present r).request = some r := rfl
@[simp] theorem State.present_response : (s.present r).response = s.response := rfl
@[simp] theorem State.present_latches : (s.present r).latches = s.latches := rfl

/-! ## accept -/

@[simp] theorem State.accept_params : (s.accept r).params = s.params := rfl
@[simp] theorem State.accept_opcodeTable : (s.accept r).opcodeTable = s.opcodeTable := rfl
@[simp] theorem State.accept_registerTable : (s.accept r).registerTable = s.registerTable := rfl
@[simp] theorem State.accept_initialized : (s.accept r).initialized = s.initialized := rfl
@[simp] theorem State.accept_request : (s.accept r).request = s.request := rfl
@[simp] theorem State.accept_response : (s.accept r).response = s.response := rfl
@[simp] theorem State.accept_latches : (s.accept r).latches = some (Latches.start r) := rfl

/-! ## send -/

@[simp] theorem State.send_params : s.send.params = s.params := rfl
@[simp] theorem State.send_opcodeTable : s.send.opcodeTable = s.opcodeTable := rfl
@[simp] theorem State.send_registerTable : s.send.registerTable = s.registerTable := rfl
@[simp] theorem State.send_initialized : s.send.initialized = s.initialized := rfl
@[simp] theorem State.send_request : s.send.request = none := rfl
@[simp] theorem State.send_response : s.send.response = none := rfl
@[simp] theorem State.send_latches : s.send.latches = none := rfl

/-! ## initialise -/

@[simp] theorem State.initialise_params : s.initialise.params = s.params := rfl
@[simp] theorem State.initialise_opcodeTable : s.initialise.opcodeTable = s.params.opcodeTable := rfl
@[simp] theorem State.initialise_registerTable : s.initialise.registerTable = RegisterTable.fixed := rfl
@[simp] theorem State.initialise_initialized : s.initialise.initialized = true := rfl
@[simp] theorem State.initialise_request : s.initialise.request = s.request := rfl
@[simp] theorem State.initialise_response : s.initialise.response = s.response := rfl
@[simp] theorem State.initialise_latches : s.initialise.latches = s.latches := rfl

/-! ## raise -/

@[simp] theorem State.raise_params : (s.raise l k p fl bs).params = s.params := rfl
@[simp] theorem State.raise_opcodeTable : (s.raise l k p fl bs).opcodeTable = s.opcodeTable := rfl
@[simp] theorem State.raise_registerTable : (s.raise l k p fl bs).registerTable = s.registerTable := rfl
@[simp] theorem State.raise_initialized : (s.raise l k p fl bs).initialized = s.initialized := rfl
@[simp] theorem State.raise_request : (s.raise l k p fl bs).request = s.request := rfl
@[simp] theorem State.raise_response :
    (s.raise l k p fl bs).response = some (.err ⟨k, l.req.offset, p, fl, bs⟩) := rfl
@[simp] theorem State.raise_latches : (s.raise l k p fl bs).latches = none := rfl

/-! ## The start latches -/

@[simp] theorem Latches.start_req : (Latches.start r).req = r := rfl
@[simp] theorem Latches.start_ps : (Latches.start r).ps = PrefixState.start := rfl
@[simp] theorem Latches.start_osz : (Latches.start r).osz = none := rfl
@[simp] theorem Latches.start_asz : (Latches.start r).asz = none := rfl
@[simp] theorem Latches.start_key : (Latches.start r).key = none := rfl
@[simp] theorem Latches.start_entry : (Latches.start r).entry = none := rfl
@[simp] theorem Latches.start_desc : (Latches.start r).desc = none := rfl
@[simp] theorem Latches.start_opcAt : (Latches.start r).opcAt = none := rfl
@[simp] theorem Latches.start_cur : (Latches.start r).cur = r.offset := rfl
@[simp] theorem Latches.start_modrm : (Latches.start r).modrm = none := rfl
@[simp] theorem Latches.start_mem : (Latches.start r).mem = none := rfl
@[simp] theorem Latches.start_ops : (Latches.start r).ops = [] := rfl

/-! ## The end of the scan -/

@[simp] theorem Latches.endScan_req : l.endScan.req = l.req := rfl
@[simp] theorem Latches.endScan_ps : l.endScan.ps = l.ps := rfl
@[simp] theorem Latches.endScan_cur : l.endScan.cur = l.cur := rfl
@[simp] theorem Latches.endScan_opcAt : l.endScan.opcAt = some l.opcodeAt := rfl
@[simp] theorem Latches.endScan_opcodeAt : l.endScan.opcodeAt = l.opcodeAt := rfl
@[simp] theorem Latches.endScan_osz : l.endScan.osz = some l.attrs.osz := rfl
@[simp] theorem Latches.endScan_asz : l.endScan.asz = some l.attrs.asz := rfl
@[simp] theorem Latches.endScan_attrs : l.endScan.attrs = l.attrs := rfl

end Sys2Proof.Machine
end

