-- ==== Sys2Proof/Laws/Exec.lean ====
section
/-!
SUPPORT. What each shared operation can do, and that every arm of exec is one of them.
-/

namespace Sys2Proof.Machine

/-! ## One lemma per shared operation -/

theorem State.withRequest_some {s : State} {l : Latches} (h : s.latches = some l) (g : Latches → State) :
    s.withRequest g = .next (g l) := by
  simp [State.withRequest, h]

theorem State.withRequest_none {s : State} (h : s.latches = none) (g : Latches → State) :
    s.withRequest g = .refused .noRequest := by
  simp [State.withRequest, h]

/-- A meaning gives a next state exactly when a request is in progress, and then it is `g`'s. -/
theorem State.withRequest_eq_next {s t : State} {g : Latches → State} (h : s.withRequest g = .next t) :
    ∃ l, s.latches = some l ∧ t = g l := by
  unfold State.withRequest at h
  split at h
  · rename_i l hl; cases h; exact ⟨l, hl, rfl⟩
  · cases h

theorem servePrefix_next {s : State} {l : Latches} (h : s.latches = some l) (g : PrefixState → PrefixState) :
    servePrefix g s = .next { s with latches := some { l with ps := g l.ps, cur := l.cur + 1 } } :=
  State.withRequest_some h _

theorem serveEscape_next {s : State} {l : Latches} (h : s.latches = some l) :
    serveEscape s = .next { s with latches := some { l.endScan with cur := l.cur + 1 } } :=
  State.withRequest_some h _

theorem serveUnassigned_next {s : State} {l : Latches} (h : s.latches = some l) (k : Key) :
    serveUnassigned k s = .next (failed s l .invalidOpcode l.opcodeAt .opcode k.bytes) :=
  State.withRequest_some h _

theorem serveRow_next {s : State} {l : Latches} (h : s.latches = some l) (k : Key) (d : OpcodeDescriptor)
    (f : Fields) : serveRow k d f s = .next (s.answer (l.readOpcode s.opcodeTable k d) k d f) :=
  State.withRequest_some h _

/-- In the states a row is served in, the widths in force are the effective ones (R147, R148). -/
theorem Latches.Scanning.attrs {l : Latches} (h : l.Scanning) :
    l.attrs = ⟨effectiveWidth l.req.is32 l.ps.opsz, effectiveWidth l.req.is32 l.ps.adsz⟩ := by
  cases ho : l.opcAt with
  | none => simp [Latches.attrs, effectiveAttrs, h.scan ho]
  | some o => simp [Latches.attrs, effectiveAttrs, (h.escape o ho).2]

@[simp] theorem effectiveWidth_eq_s32 (a b : Bool) : decide (effectiveWidth a b = .s32) = (a != b) := by
  cases a <;> cases b <;> rfl

theorem memoryLatch_eq (l : Latches) (name : String) (specs : List Spec) (f : Fields) :
    memoryLatch RegisterTable.fixed (effectiveWidth l.req.is32 l.ps.adsz) (opcode name specs) f =
      rowMemory l specs f := by
  obtain ⟨m, sib, disp, t⟩ := f
  cases m <;> simp [memoryLatch, rowMemory, needsMemory, opcode]

/-- An opcode row with no Fpu spec whose S-class operand, if any, names a segment register answers with
its Instruction (R240, R241). -/
theorem serveRow_answers {s : State} {l : Latches} (h : Serving s l) (k : Key) (name : String)
    (specs : List Spec) (f : Fields) (hf : specs.any Spec.isFpu = false)
    (hs : f.modrm.any (segmentMissing (opcode name specs)) = false) :
    serveRow k (opcode name specs) f s = .next (answered s l k name specs f) := by
  have ha := h.scanning.attrs
  rw [serveRow_next h.latches]
  have hf' : (opcode name specs).specs.any Spec.isFpu = false := hf
  unfold State.answer
  rw [if_neg (by simp [hf']), if_neg (by simp [hs]), h.registers]
  have hm := memoryLatch_eq l name specs f
  simp only [Latches.format, Latches.readBlock, Latches.readOpcode, Latches.instruction, Latches.ctx,
    answered, rowInstruction, rowOperands, Option.map_map, Function.comp_def, ModRM.ofByte_toByte,
    Option.map_id', Latches.attrs, Latches.endScan, Option.getD_some]
  have h1 : l.osz.getD (effectiveAttrs l.req.is32 l.ps).osz = effectiveWidth l.req.is32 l.ps.opsz :=
    congrArg Attrs.osz ha
  have h2 : l.asz.getD (effectiveAttrs l.req.is32 l.ps).asz = effectiveWidth l.req.is32 l.ps.adsz :=
    congrArg Attrs.asz ha
  simp only [h1, h2, hm, effectiveWidth_eq_s32]
  rw [h.registers]
  rfl

/-- An Fpu spec fails before anything else is looked at (R165, R903). -/
theorem serveRow_fpu {s : State} {l : Latches} (h : s.latches = some l) (k : Key) (d : OpcodeDescriptor)
    (f : Fields) (hf : d.specs.any Spec.isFpu = true) :
    serveRow k d f s = .next (failed s l .unsupportedAddressingMode l.opcodeAt .opcode k.bytes) := by
  rw [serveRow_next h]; unfold State.answer; rw [if_pos hf]; rfl

/-- An S-class operand that names no segment register fails before the memory part (R198). -/
theorem serveRow_noSegment {s : State} {l : Latches} (h : s.latches = some l) (k : Key) (d : OpcodeDescriptor)
    (f : Fields) (m : ModRM) (hf : d.specs.any Spec.isFpu = false) (hm : f.modrm = some m)
    (hs : segmentMissing d m = true) :
    serveRow k d f s =
      .next (failed s l .invalidOpcode l.opcodeAt .opcode (k.bytes ++ [m.toByte])) := by
  rw [serveRow_next h]; unfold State.answer; rw [if_neg (by simp [hf]), if_pos (by simp [hm, hs])]
  simp [hm]; rfl

/-! ## Every arm is one of them -/

/-- What exec does with a row, said once: a prefix write, the escape, a failed lookup, or an opcode row of
the row's own key, slot and fields. -/
theorem exec_cases (i : Instr) :
    (∃ g, ∀ s, exec i s = servePrefix g s) ∨ (∀ s, exec i s = serveEscape s) ∨
    (∀ s, exec i s = serveUnassigned i.parts.key s) ∨
    (∃ name specs, ∀ s, exec i s = serveRow i.parts.key (opcode name specs) i.parts.fields s) := by
  cases i
  all_goals first
    | exact .inr (.inr (.inr ⟨_, _, fun _ => rfl⟩))
    | exact .inl ⟨_, fun _ => rfl⟩
    | exact .inr (.inl fun _ => rfl)
    | exact .inr (.inr (.inl fun _ => rfl))

end Sys2Proof.Machine
end

