-- ==== Sys2Proof/Laws/Memory.lean ====
section
/-!
SUPPORT. The byte view: `Memory.ofBytes` is the canonical form and every canonical view is one; reading a
byte and reading a run of bytes, in terms of the byte list.
-/

namespace Sys2Proof.Machine

theorem Memory.map_fst_ofBytesAt (p : Nat) (bs : List Byte) :
    (Memory.ofBytesAt p bs).map Prod.fst = List.range' p bs.length := by
  induction bs generalizing p with
  | nil => rfl
  | cons b bs ih => simp [Memory.ofBytesAt, ih, List.range']

theorem Memory.map_snd_ofBytesAt (p : Nat) (bs : List Byte) :
    (Memory.ofBytesAt p bs).map Prod.snd = bs := by
  induction bs generalizing p with
  | nil => rfl
  | cons b bs ih => simp [Memory.ofBytesAt, ih]

@[simp] theorem Memory.length_ofBytesAt (p : Nat) (bs : List Byte) :
    (Memory.ofBytesAt p bs).length = bs.length := by
  induction bs generalizing p with
  | nil => rfl
  | cons b bs ih => simp [Memory.ofBytesAt, ih]

@[simp] theorem Memory.length_ofBytes (bs : List Byte) : (Memory.ofBytes bs).length = bs.length :=
  Memory.length_ofBytesAt 0 bs

/-- The one operation that makes a view makes a canonical one. -/
theorem Memory.wf_ofBytes (bs : List Byte) : (Memory.ofBytes bs).wf = true := by
  simp [Memory.wf, Memory.ofBytes, Memory.map_fst_ofBytesAt, List.range_eq_range']

theorem Memory.eq_ofBytesAt (m : Memory) (p : Nat) (h : m.map Prod.fst = List.range' p m.length) :
    m = Memory.ofBytesAt p (m.map Prod.snd) := by
  induction m generalizing p with
  | nil => rfl
  | cons c m ih =>
    simp only [List.map_cons, List.length_cons, List.range'_succ, List.cons.injEq] at h
    simp only [List.map_cons, Memory.ofBytesAt, ← h.1]
    rw [← ih (c.1 + 1) (by rw [h.1]; exact h.2)]

/-- Every canonical view is the view of its own bytes. -/
theorem Memory.eq_ofBytes {m : Memory} (h : m.wf = true) : m = Memory.ofBytes (m.map Prod.snd) := by
  apply Memory.eq_ofBytesAt
  simpa [Memory.wf, List.range_eq_range'] using h

theorem Memory.byteAt_ofBytesAt (p q : Nat) (bs : List Byte) (h : p ≤ q) :
    (Memory.ofBytesAt p bs).byteAt q = bs[q - p]? := by
  induction bs generalizing p with
  | nil => simp [Memory.ofBytesAt, Memory.byteAt]
  | cons b bs ih =>
    simp only [Memory.byteAt, Memory.ofBytesAt, List.lookup_cons]
    rcases Nat.eq_or_lt_of_le h with rfl | hlt
    · simp
    · have hne : (q == p) = false := by simp; omega
      rw [hne]
      have := ih (p + 1) hlt
      simp only [Memory.byteAt] at this
      simp only [this]
      have : q - p = (q - (p + 1)) + 1 := by omega
      rw [this, List.getElem?_cons_succ]

theorem Memory.byteAt_ofBytes (bs : List Byte) (q : Nat) : (Memory.ofBytes bs).byteAt q = bs[q]? := by
  simpa [Memory.ofBytes] using Memory.byteAt_ofBytesAt 0 q bs (Nat.zero_le q)

theorem Memory.bytesFrom_ofBytesAt (p q lim : Nat) (bs : List Byte) :
    (Memory.ofBytesAt p bs).bytesFrom q lim = (bs.take (lim - p)).drop (q - p) := by
  induction bs generalizing p with
  | nil => simp [Memory.ofBytesAt, Memory.bytesFrom]
  | cons b bs ih =>
    have ih' := ih (p + 1)
    simp only [Memory.bytesFrom] at ih' ⊢
    simp only [Memory.ofBytesAt, List.filter_cons]
    by_cases hl : p < lim
    · have e1 : lim - p = (lim - (p + 1)) + 1 := by omega
      by_cases hq : q ≤ p
      · have e2 : q - p = 0 := by omega
        have e3 : q - (p + 1) = 0 := by omega
        rw [e3, List.drop_zero] at ih'
        simp [hl, hq, e1, e2, ih']
      · have e2 : q - p = (q - (p + 1)) + 1 := by omega
        simp [hl, hq, e1, e2, ih']
    · have e1 : lim - p = 0 := by omega
      have e2 : lim - (p + 1) = 0 := by omega
      rw [e2] at ih'
      simp [hl, e1, ih']

/-- A run of bytes of a view: from offset `q` on, below `lim`. -/
theorem Memory.bytesFrom_ofBytes (q lim : Nat) (bs : List Byte) :
    (Memory.ofBytes bs).bytesFrom q lim = (bs.take lim).drop q := by
  simpa [Memory.ofBytes] using Memory.bytesFrom_ofBytesAt 0 q lim bs

/-- `MemRead` of one byte is the head of the run (R12). -/
theorem Memory.bytesFrom_cons {m : Memory} (hw : m.wf = true) {q lim : Nat} (h : q < lim)
    (hl : lim ≤ m.length) :
    ∃ b, m.byteAt q = some b ∧ m.bytesFrom q lim = b :: m.bytesFrom (q + 1) lim := by
  obtain ⟨bs, rfl⟩ : ∃ bs, m = Memory.ofBytes bs := ⟨_, Memory.eq_ofBytes hw⟩
  rw [Memory.length_ofBytes] at hl
  have hq : q < bs.length := by omega
  refine ⟨bs[q], ?_, ?_⟩
  · simp [Memory.byteAt_ofBytes, hq]
  · rw [Memory.bytesFrom_ofBytes, Memory.bytesFrom_ofBytes]
    rw [List.drop_eq_getElem_cons (by simp; omega)]
    simp

/-- Nothing is read at or past the limit. -/
theorem Memory.bytesFrom_nil (m : Memory) {q lim : Nat} (h : lim ≤ q) : m.bytesFrom q lim = [] := by
  simp only [Memory.bytesFrom, List.map_eq_nil_iff, List.filter_eq_nil_iff]
  intro c _; simp; omega

/-- The limit is inside the view (R906). -/
theorem viewLimit_le (p : Params) (r : Request) : viewLimit p r ≤ r.view.length := by
  unfold viewLimit; split <;> omega

end Sys2Proof.Machine
end

