-- ==== Sys2Proof/Laws/Rows.lean ====
section
/-!
SUPPORT. The rows the decoder can build: each maker takes exactly the fields of its descriptor's shape, gives
a well-formed instruction whose parts are the key, the slot and those fields, and that instruction's meaning
is the row the default table has there.
-/

namespace Sys2Proof

open Sys2Proof.Machine

-- many kernel evaluations at once would each hold a thread's stack: one after another
set_option Elab.async false

/-! ## The shape of fields, shape by shape -/

/-- The sizes of the trailing fields of a list of specs. -/
def trailingSizes (a : Attrs) (specs : List Spec) : List Nat := (specs.filterMap (Spec.trailing? a)).map Prod.fst

theorem trailingFits_iff {a : Attrs} {specs : List Spec} {fs : List Field} :
    TrailingFits a specs fs ↔ fs.map Field.size = trailingSizes a specs := by
  induction specs generalizing fs with
  | nil => simp [TrailingFits, trailingSizes]
  | cons sp sps ih =>
    cases h : sp.trailing? a with
    | none => simp [TrailingFits, h, ih, trailingSizes]
    | some nf =>
      simp only [TrailingFits, h, ih, trailingSizes, List.filterMap_cons, List.map_cons]
      cases fs with
      | nil => simp
      | cons f fs => simp

@[simp] theorem Field.size_eq_zero {f : Field} : f.size = 0 ↔ f = .absent := by cases f <;> simp [Field.size]

@[simp] theorem Field.size_f8 (v : BitVec 8) : (Field.f8 v).size = 1 := rfl

@[simp] theorem Field.size_f16 (v : BitVec 16) : (Field.f16 v).size = 2 := rfl

theorem Field.size_eq_one {f : Field} : f.size = 1 ↔ ∃ v, f = .f8 v := by cases f <;> simp [Field.size]

theorem Field.size_eq_two {f : Field} : f.size = 2 ↔ ∃ v, f = .f16 v := by cases f <;> simp [Field.size]

/-- A well-formed ModRM block less its reg field is one whose memory part fits. -/
theorem Rm.wellFormed_iff {a : Attrs} {m : ModRM} {sib : Option Sib} {disp : Field} :
    Rm.wellFormed a ⟨m.mod, m.rm, sib, disp⟩ = true ↔
      (if m.mod = 3#2 then sib = none ∧ disp = .absent else MemoryFits a.asz m sib disp) := by
  obtain ⟨osz, asz⟩ := a
  unfold Rm.wellFormed
  by_cases h3 : m.mod = 3#2
  · simp [h3]
  · cases asz with
    | s16 => simp [h3, sibFollows, MemoryFits]
    | s32 =>
      by_cases h4 : m.rm = 4#3
      · cases sib <;> simp [h3, h4, sibFollows, MemoryFits]
      · simp [h3, h4, sibFollows, MemoryFits]

theorem fieldsFit_plain {a : Attrs} {d : OpcodeDescriptor} {f : Fields} (hn : needsModRM false d = false) :
    FieldsFit a false d f ↔
      f.modrm = none ∧ f.sib = none ∧ f.disp = .absent ∧ f.trailing.map Field.size = trailingSizes a d.specs := by
  constructor
  · rintro ⟨hb, ht⟩
    simp only [hn] at hb
    exact ⟨hb.1, hb.2.1, hb.2.2, trailingFits_iff.1 ht⟩
  · rintro ⟨h1, h2, h3, ht⟩
    exact ⟨by simp [hn, h1, h2, h3], trailingFits_iff.2 ht⟩

theorem fieldsFit_block {a : Attrs} {g : Bool} {d : OpcodeDescriptor} {f : Fields} (hn : needsModRM g d = true)
    (hm : d.specs.any Spec.readsMem = true) :
    FieldsFit a g d f ↔ ∃ m, f.modrm = some m ∧ segmentMissing d m = false ∧
      Rm.wellFormed a ⟨m.mod, m.rm, f.sib, f.disp⟩ = true ∧
      f.trailing.map Field.size = trailingSizes a d.specs := by
  have key : ∀ m : ModRM, (if needsMemory d m then MemoryFits a.asz m f.sib f.disp
      else f.sib = none ∧ f.disp = .absent) ↔ Rm.wellFormed a ⟨m.mod, m.rm, f.sib, f.disp⟩ = true := by
    intro m
    rw [Rm.wellFormed_iff]
    by_cases h3 : m.mod = 3#2 <;> simp [needsMemory, hm, h3]
  constructor
  · rintro ⟨hb, ht⟩
    simp only [hn, if_true] at hb
    obtain ⟨m, h1, h2, h3⟩ := hb
    exact ⟨m, h1, h2, (key m).1 h3, trailingFits_iff.1 ht⟩
  · rintro ⟨m, h1, h2, h3, ht⟩
    refine ⟨?_, trailingFits_iff.2 ht⟩
    simp only [hn, if_true]
    exact ⟨m, h1, h2, (key m).2 h3⟩

theorem fieldsFit_lone {a : Attrs} {d : OpcodeDescriptor} {f : Fields} (hn : needsModRM false d = true)
    (hm : d.specs.any Spec.readsMem = false) (hs : d.specs.any Spec.isS = false) :
    FieldsFit a false d f ↔ ∃ m, f.modrm = some m ∧ f.sib = none ∧ f.disp = .absent ∧
      f.trailing.map Field.size = trailingSizes a d.specs := by
  constructor
  · rintro ⟨hb, ht⟩
    simp only [hn, if_true] at hb
    obtain ⟨m, h1, h2, h3⟩ := hb
    simp only [needsMemory, hm, Bool.and_false] at h3
    exact ⟨m, h1, h3.1, h3.2, trailingFits_iff.1 ht⟩
  · rintro ⟨m, h1, h2, h3, ht⟩
    refine ⟨?_, trailingFits_iff.2 ht⟩
    simp only [hn, if_true]
    exact ⟨m, h1, by simp [segmentMissing, hs], by simp [needsMemory, hm, h2, h3]⟩

/-! ## What a maker must do -/

/-- The fields carry the group slot in their ModRM byte. -/
def SlotMatches (slot : Option (BitVec 3)) (f : Fields) : Prop :=
  ∀ r, slot = some r → ∃ m, f.modrm = some m ∧ m.reg = r

/-- A maker builds the row of its key and slot, from exactly the fields of the row's shape. -/
structure Maker.Builds (m : Maker) (d : OpcodeDescriptor) : Prop where
  row : defaultTable.descriptor? m.1 m.2.1 = some d
  parts : ∀ f i, m.2.2 f = some i → SlotMatches m.2.1 f →
    i.parts = ⟨m.1, m.2.1, f⟩ ∧ ∀ s, exec i s = serveRow m.1 d f s
  fits : ∀ a f, SlotMatches m.2.1 f →
    (FieldsFit a m.2.1.isSome d f ↔ ∃ i, m.2.2 f = some i ∧ i.wellFormed a = true)

/-- A maker builds a row of the default table. -/
def Maker.Good (m : Maker) : Prop := ∃ d, Maker.Builds m d

/-- The fields carry the trailing sizes, and the well-formedness check of the constructor is the shape's. -/
abbrev sized (a : Attrs) (d : OpcodeDescriptor) (ns : List Nat) : Prop := trailingSizes a d.specs = ns

/-! ## One lemma per shape -/

theorem ofPlain_good {k : Key} {d : OpcodeDescriptor} {g : Instr}
    (hd : defaultTable.descriptor? k none = some d)
    (hp : (g).parts = ⟨k, none, .plain []⟩)
    (he : ∀  s, exec (g) s = serveRow k d (.plain []) s)
    (hn : needsModRM false d = false) (ht : ∀ x, sized x d [])
    (hw : ∀ x , (g).wellFormed x = (true)) : Maker.Good (k, none, ofPlain g) := by
  refine ⟨d, hd, fun f i h hs' => ?_, fun x f hs' => ?_⟩
  · dsimp only at h ⊢
    unfold ofPlain at h
    split at h
    · cases h
      exact ⟨hp, fun s => he s⟩
    · cases h
  · obtain ⟨modrm, sib, disp, trailing⟩ := f
    dsimp only [Option.isSome] at hs' ⊢
    rw [fieldsFit_plain hn, ht x]
    constructor
    · rintro ⟨h1, h2, h3, h4⟩
      cases h1; cases h2; cases h3
      cases List.map_eq_nil_iff.1 h4
      refine ⟨_, rfl, ?_⟩
      rw [hw]
    · rintro ⟨i, h1, h2⟩
      unfold ofPlain at h1
      split at h1
      · rename_i heq
        cases heq
        cases h1
        rw [hw] at h2
        exact ⟨rfl, rfl, rfl, rfl⟩
      · cases h1

theorem ofPlain8_good {k : Key} {d : OpcodeDescriptor} {g : BitVec 8 → Instr}
    (hd : defaultTable.descriptor? k none = some d)
    (hp : ∀ a, (g a).parts = ⟨k, none, .plain [.f8 a]⟩)
    (he : ∀ a s, exec (g a) s = serveRow k d (.plain [.f8 a]) s)
    (hn : needsModRM false d = false) (ht : ∀ x, sized x d [1])
    (hw : ∀ x a, (g a).wellFormed x = (true)) : Maker.Good (k, none, ofPlain8 g) := by
  refine ⟨d, hd, fun f i h hs' => ?_, fun x f hs' => ?_⟩
  · dsimp only at h ⊢
    unfold ofPlain8 at h
    split at h
    · cases h
      exact ⟨hp .., fun s => he _ s⟩
    · cases h
  · obtain ⟨modrm, sib, disp, trailing⟩ := f
    dsimp only [Option.isSome] at hs' ⊢
    rw [fieldsFit_plain hn, ht x]
    constructor
    · rintro ⟨h1, h2, h3, h4⟩
      cases h1; cases h2; cases h3
      obtain ⟨f1, rfl, h5⟩ := List.map_eq_singleton_iff.1 h4
      obtain ⟨vh5, rfl⟩ := Field.size_eq_one.1 h5
      refine ⟨_, rfl, ?_⟩
      rw [hw]
    · rintro ⟨i, h1, h2⟩
      unfold ofPlain8 at h1
      split at h1
      · rename_i heq
        cases heq
        cases h1
        rw [hw] at h2
        exact ⟨rfl, rfl, rfl, rfl⟩
      · cases h1

theorem ofPlain16_good {k : Key} {d : OpcodeDescriptor} {g : BitVec 16 → Instr}
    (hd : defaultTable.descriptor? k none = some d)
    (hp : ∀ a, (g a).parts = ⟨k, none, .plain [.f16 a]⟩)
    (he : ∀ a s, exec (g a) s = serveRow k d (.plain [.f16 a]) s)
    (hn : needsModRM false d = false) (ht : ∀ x, sized x d [2])
    (hw : ∀ x a, (g a).wellFormed x = (true)) : Maker.Good (k, none, ofPlain16 g) := by
  refine ⟨d, hd, fun f i h hs' => ?_, fun x f hs' => ?_⟩
  · dsimp only at h ⊢
    unfold ofPlain16 at h
    split at h
    · cases h
      exact ⟨hp .., fun s => he _ s⟩
    · cases h
  · obtain ⟨modrm, sib, disp, trailing⟩ := f
    dsimp only [Option.isSome] at hs' ⊢
    rw [fieldsFit_plain hn, ht x]
    constructor
    · rintro ⟨h1, h2, h3, h4⟩
      cases h1; cases h2; cases h3
      obtain ⟨f1, rfl, h5⟩ := List.map_eq_singleton_iff.1 h4
      obtain ⟨vh5, rfl⟩ := Field.size_eq_two.1 h5
      refine ⟨_, rfl, ?_⟩
      rw [hw]
    · rintro ⟨i, h1, h2⟩
      unfold ofPlain16 at h1
      split at h1
      · rename_i heq
        cases heq
        cases h1
        rw [hw] at h2
        exact ⟨rfl, rfl, rfl, rfl⟩
      · cases h1

theorem ofPlainF_good {k : Key} {d : OpcodeDescriptor} {g : Field → Instr} (n : Attrs → Nat)
    (hd : defaultTable.descriptor? k none = some d)
    (hp : ∀ a, (g a).parts = ⟨k, none, .plain [a]⟩)
    (he : ∀ a s, exec (g a) s = serveRow k d (.plain [a]) s)
    (hn : needsModRM false d = false) (ht : ∀ x, sized x d [n x])
    (hw : ∀ x a, (g a).wellFormed x = ((a.size == n x))) : Maker.Good (k, none, ofPlainF g) := by
  refine ⟨d, hd, fun f i h hs' => ?_, fun x f hs' => ?_⟩
  · dsimp only at h ⊢
    unfold ofPlainF at h
    split at h
    · cases h
      exact ⟨hp .., fun s => he _ s⟩
    · cases h
  · obtain ⟨modrm, sib, disp, trailing⟩ := f
    dsimp only [Option.isSome] at hs' ⊢
    rw [fieldsFit_plain hn, ht x]
    constructor
    · rintro ⟨h1, h2, h3, h4⟩
      cases h1; cases h2; cases h3
      obtain ⟨f1, rfl, h5⟩ := List.map_eq_singleton_iff.1 h4
      refine ⟨_, rfl, ?_⟩
      simp [hw, h5]
    · rintro ⟨i, h1, h2⟩
      unfold ofPlainF at h1
      split at h1
      · rename_i heq
        cases heq
        cases h1
        rw [hw] at h2
        simp only [beq_iff_eq] at h2
        exact ⟨rfl, rfl, rfl, by simp [h2]⟩
      · cases h1

theorem ofPlainF16_good {k : Key} {d : OpcodeDescriptor} {g : Field → BitVec 16 → Instr} (n : Attrs → Nat)
    (hd : defaultTable.descriptor? k none = some d)
    (hp : ∀ a b, (g a b).parts = ⟨k, none, .plain [a, .f16 b]⟩)
    (he : ∀ a b s, exec (g a b) s = serveRow k d (.plain [a, .f16 b]) s)
    (hn : needsModRM false d = false) (ht : ∀ x, sized x d [n x, 2])
    (hw : ∀ x a b, (g a b).wellFormed x = ((a.size == n x))) : Maker.Good (k, none, ofPlainF16 g) := by
  refine ⟨d, hd, fun f i h hs' => ?_, fun x f hs' => ?_⟩
  · dsimp only at h ⊢
    unfold ofPlainF16 at h
    split at h
    · cases h
      exact ⟨hp .., fun s => he _ _ s⟩
    · cases h
  · obtain ⟨modrm, sib, disp, trailing⟩ := f
    dsimp only [Option.isSome] at hs' ⊢
    rw [fieldsFit_plain hn, ht x]
    constructor
    · rintro ⟨h1, h2, h3, h4⟩
      cases h1; cases h2; cases h3
      obtain ⟨f1, t1, rfl, h5, h6⟩ := List.map_eq_cons_iff.1 h4
      obtain ⟨f2, rfl, h7⟩ := List.map_eq_singleton_iff.1 h6
      obtain ⟨vh7, rfl⟩ := Field.size_eq_two.1 h7
      refine ⟨_, rfl, ?_⟩
      simp [hw, h5]
    · rintro ⟨i, h1, h2⟩
      unfold ofPlainF16 at h1
      split at h1
      · rename_i heq
        cases heq
        cases h1
        rw [hw] at h2
        simp only [beq_iff_eq] at h2
        exact ⟨rfl, rfl, rfl, by simp [h2]⟩
      · cases h1

theorem ofPlain168_good {k : Key} {d : OpcodeDescriptor} {g : BitVec 16 → BitVec 8 → Instr}
    (hd : defaultTable.descriptor? k none = some d)
    (hp : ∀ a b, (g a b).parts = ⟨k, none, .plain [.f16 a, .f8 b]⟩)
    (he : ∀ a b s, exec (g a b) s = serveRow k d (.plain [.f16 a, .f8 b]) s)
    (hn : needsModRM false d = false) (ht : ∀ x, sized x d [2, 1])
    (hw : ∀ x a b, (g a b).wellFormed x = (true)) : Maker.Good (k, none, ofPlain168 g) := by
  refine ⟨d, hd, fun f i h hs' => ?_, fun x f hs' => ?_⟩
  · dsimp only at h ⊢
    unfold ofPlain168 at h
    split at h
    · cases h
      exact ⟨hp .., fun s => he _ _ s⟩
    · cases h
  · obtain ⟨modrm, sib, disp, trailing⟩ := f
    dsimp only [Option.isSome] at hs' ⊢
    rw [fieldsFit_plain hn, ht x]
    constructor
    · rintro ⟨h1, h2, h3, h4⟩
      cases h1; cases h2; cases h3
      obtain ⟨f1, t1, rfl, h5, h6⟩ := List.map_eq_cons_iff.1 h4
      obtain ⟨f2, rfl, h7⟩ := List.map_eq_singleton_iff.1 h6
      obtain ⟨vh5, rfl⟩ := Field.size_eq_two.1 h5
      obtain ⟨vh7, rfl⟩ := Field.size_eq_one.1 h7
      refine ⟨_, rfl, ?_⟩
      rw [hw]
    · rintro ⟨i, h1, h2⟩
      unfold ofPlain168 at h1
      split at h1
      · rename_i heq
        cases heq
        cases h1
        rw [hw] at h2
        exact ⟨rfl, rfl, rfl, rfl⟩
      · cases h1

theorem ofReg_good {k : Key} {d : OpcodeDescriptor} {g : BitVec 3 → Rm → Instr}
    (hd : defaultTable.descriptor? k none = some d)
    (hp : ∀ a b, (g a b).parts = ⟨k, none, .block a b []⟩)
    (he : ∀ a b s, exec (g a b) s = serveRow k d (.block a b []) s)
    (hn : needsModRM false d = true) (hm : d.specs.any Spec.readsMem = true) (ht : ∀ x, sized x d [])
    (hw : ∀ x a b, (g a b).wellFormed x = ((!d.specs.any Spec.isS || namesSegment a) && b.wellFormed x)) : Maker.Good (k, none, ofReg g) := by
  refine ⟨d, hd, fun f i h hs' => ?_, fun x f hs' => ?_⟩
  · dsimp only at h ⊢
    unfold ofReg at h
    split at h
    · cases h
      exact ⟨hp .., fun s => he _ _ s⟩
    · cases h
  · obtain ⟨modrm, sib, disp, trailing⟩ := f
    dsimp only [Option.isSome] at hs' ⊢
    rw [fieldsFit_block hn hm, ht x]
    constructor
    · rintro ⟨m, h1, hsm, h3, h4⟩
      cases h1
      cases List.map_eq_nil_iff.1 h4
      refine ⟨_, rfl, ?_⟩
      have hs2 : (!d.specs.any Spec.isS || namesSegment m.reg) = true := by
        simp only [segmentMissing] at hsm; cases hA : d.specs.any Spec.isS <;> simp_all
      simp [hw, h3, hs2]
    · rintro ⟨i, h1, h2⟩
      unfold ofReg at h1
      split at h1
      · rename_i heq
        cases heq
        cases h1
        rw [hw] at h2
        simp only [Bool.and_eq_true] at h2
        refine ⟨_, rfl, ?_, h2.2, by simp⟩
        have := h2.1
        simp only [segmentMissing]; cases hA : d.specs.any Spec.isS <;> simp_all
      · cases h1

theorem ofReg8_good {k : Key} {d : OpcodeDescriptor} {g : BitVec 3 → Rm → BitVec 8 → Instr}
    (hd : defaultTable.descriptor? k none = some d)
    (hp : ∀ a b c, (g a b c).parts = ⟨k, none, .block a b [.f8 c]⟩)
    (he : ∀ a b c s, exec (g a b c) s = serveRow k d (.block a b [.f8 c]) s)
    (hn : needsModRM false d = true) (hm : d.specs.any Spec.readsMem = true) (ht : ∀ x, sized x d [1])
    (hw : ∀ x a b c, (g a b c).wellFormed x = ((!d.specs.any Spec.isS || namesSegment a) && b.wellFormed x)) : Maker.Good (k, none, ofReg8 g) := by
  refine ⟨d, hd, fun f i h hs' => ?_, fun x f hs' => ?_⟩
  · dsimp only at h ⊢
    unfold ofReg8 at h
    split at h
    · cases h
      exact ⟨hp .., fun s => he _ _ _ s⟩
    · cases h
  · obtain ⟨modrm, sib, disp, trailing⟩ := f
    dsimp only [Option.isSome] at hs' ⊢
    rw [fieldsFit_block hn hm, ht x]
    constructor
    · rintro ⟨m, h1, hsm, h3, h4⟩
      cases h1
      obtain ⟨f1, rfl, h5⟩ := List.map_eq_singleton_iff.1 h4
      obtain ⟨vh5, rfl⟩ := Field.size_eq_one.1 h5
      refine ⟨_, rfl, ?_⟩
      have hs2 : (!d.specs.any Spec.isS || namesSegment m.reg) = true := by
        simp only [segmentMissing] at hsm; cases hA : d.specs.any Spec.isS <;> simp_all
      simp [hw, h3, hs2]
    · rintro ⟨i, h1, h2⟩
      unfold ofReg8 at h1
      split at h1
      · rename_i heq
        cases heq
        cases h1
        rw [hw] at h2
        simp only [Bool.and_eq_true] at h2
        refine ⟨_, rfl, ?_, h2.2, by simp⟩
        have := h2.1
        simp only [segmentMissing]; cases hA : d.specs.any Spec.isS <;> simp_all
      · cases h1

theorem ofRegF_good {k : Key} {d : OpcodeDescriptor} {g : BitVec 3 → Rm → Field → Instr} (n : Attrs → Nat)
    (hd : defaultTable.descriptor? k none = some d)
    (hp : ∀ a b c, (g a b c).parts = ⟨k, none, .block a b [c]⟩)
    (he : ∀ a b c s, exec (g a b c) s = serveRow k d (.block a b [c]) s)
    (hn : needsModRM false d = true) (hm : d.specs.any Spec.readsMem = true) (ht : ∀ x, sized x d [n x])
    (hw : ∀ x a b c, (g a b c).wellFormed x = ((!d.specs.any Spec.isS || namesSegment a) && b.wellFormed x && (c.size == n x))) : Maker.Good (k, none, ofRegF g) := by
  refine ⟨d, hd, fun f i h hs' => ?_, fun x f hs' => ?_⟩
  · dsimp only at h ⊢
    unfold ofRegF at h
    split at h
    · cases h
      exact ⟨hp .., fun s => he _ _ _ s⟩
    · cases h
  · obtain ⟨modrm, sib, disp, trailing⟩ := f
    dsimp only [Option.isSome] at hs' ⊢
    rw [fieldsFit_block hn hm, ht x]
    constructor
    · rintro ⟨m, h1, hsm, h3, h4⟩
      cases h1
      obtain ⟨f1, rfl, h5⟩ := List.map_eq_singleton_iff.1 h4
      refine ⟨_, rfl, ?_⟩
      have hs2 : (!d.specs.any Spec.isS || namesSegment m.reg) = true := by
        simp only [segmentMissing] at hsm; cases hA : d.specs.any Spec.isS <;> simp_all
      simp [hw, h3, h5, hs2]
    · rintro ⟨i, h1, h2⟩
      unfold ofRegF at h1
      split at h1
      · rename_i heq
        cases heq
        cases h1
        rw [hw] at h2
        simp only [Bool.and_eq_true, beq_iff_eq] at h2
        refine ⟨_, rfl, ?_, h2.1.2, by simp [h2]⟩
        have := h2.1.1
        simp only [segmentMissing]; cases hA : d.specs.any Spec.isS <;> simp_all
      · cases h1

theorem ofRm_good {k : Key} {d : OpcodeDescriptor} {r : BitVec 3} {g : Rm → Instr}
    (hd : defaultTable.descriptor? k (some r) = some d)
    (hp : ∀ a, (g a).parts = ⟨k, (some r), .block r a []⟩)
    (he : ∀ a s, exec (g a) s = serveRow k d (.block r a []) s)
    (hm : d.specs.any Spec.readsMem = true) (hs : d.specs.any Spec.isS = false) (ht : ∀ x, sized x d [])
    (hw : ∀ x a, (g a).wellFormed x = (a.wellFormed x)) : Maker.Good (k, (some r), ofRm g) := by
  refine ⟨d, hd, fun f i h hs' => ?_, fun x f hs' => ?_⟩
  · dsimp only at h ⊢
    unfold ofRm at h
    split at h
    · cases h
      obtain ⟨m', h1, h2⟩ := hs' r rfl
      cases h1
      subst h2
      exact ⟨hp .., fun s => he _ s⟩
    · cases h
  · obtain ⟨modrm, sib, disp, trailing⟩ := f
    dsimp only [Option.isSome] at hs' ⊢
    rw [fieldsFit_block (by simp [needsModRM]) hm, ht x]
    constructor
    · rintro ⟨m, h1, hsm, h3, h4⟩
      cases h1
      cases List.map_eq_nil_iff.1 h4
      refine ⟨_, rfl, ?_⟩
      simp [hw, h3]
    · rintro ⟨i, h1, h2⟩
      unfold ofRm at h1
      split at h1
      · rename_i heq
        cases heq
        cases h1
        rw [hw] at h2
        exact ⟨_, rfl, by simp [segmentMissing, hs], h2, by simp⟩
      · cases h1

theorem ofRm8_good {k : Key} {d : OpcodeDescriptor} {r : BitVec 3} {g : Rm → BitVec 8 → Instr}
    (hd : defaultTable.descriptor? k (some r) = some d)
    (hp : ∀ a b, (g a b).parts = ⟨k, (some r), .block r a [.f8 b]⟩)
    (he : ∀ a b s, exec (g a b) s = serveRow k d (.block r a [.f8 b]) s)
    (hm : d.specs.any Spec.readsMem = true) (hs : d.specs.any Spec.isS = false) (ht : ∀ x, sized x d [1])
    (hw : ∀ x a b, (g a b).wellFormed x = (a.wellFormed x)) : Maker.Good (k, (some r), ofRm8 g) := by
  refine ⟨d, hd, fun f i h hs' => ?_, fun x f hs' => ?_⟩
  · dsimp only at h ⊢
    unfold ofRm8 at h
    split at h
    · cases h
      obtain ⟨m', h1, h2⟩ := hs' r rfl
      cases h1
      subst h2
      exact ⟨hp .., fun s => he _ _ s⟩
    · cases h
  · obtain ⟨modrm, sib, disp, trailing⟩ := f
    dsimp only [Option.isSome] at hs' ⊢
    rw [fieldsFit_block (by simp [needsModRM]) hm, ht x]
    constructor
    · rintro ⟨m, h1, hsm, h3, h4⟩
      cases h1
      obtain ⟨f1, rfl, h5⟩ := List.map_eq_singleton_iff.1 h4
      obtain ⟨vh5, rfl⟩ := Field.size_eq_one.1 h5
      refine ⟨_, rfl, ?_⟩
      simp [hw, h3]
    · rintro ⟨i, h1, h2⟩
      unfold ofRm8 at h1
      split at h1
      · rename_i heq
        cases heq
        cases h1
        rw [hw] at h2
        exact ⟨_, rfl, by simp [segmentMissing, hs], h2, by simp⟩
      · cases h1

theorem ofRmF_good {k : Key} {d : OpcodeDescriptor} {r : BitVec 3} {g : Rm → Field → Instr} (n : Attrs → Nat)
    (hd : defaultTable.descriptor? k (some r) = some d)
    (hp : ∀ a b, (g a b).parts = ⟨k, (some r), .block r a [b]⟩)
    (he : ∀ a b s, exec (g a b) s = serveRow k d (.block r a [b]) s)
    (hm : d.specs.any Spec.readsMem = true) (hs : d.specs.any Spec.isS = false) (ht : ∀ x, sized x d [n x])
    (hw : ∀ x a b, (g a b).wellFormed x = (a.wellFormed x && (b.size == n x))) : Maker.Good (k, (some r), ofRmF g) := by
  refine ⟨d, hd, fun f i h hs' => ?_, fun x f hs' => ?_⟩
  · dsimp only at h ⊢
    unfold ofRmF at h
    split at h
    · cases h
      obtain ⟨m', h1, h2⟩ := hs' r rfl
      cases h1
      subst h2
      exact ⟨hp .., fun s => he _ _ s⟩
    · cases h
  · obtain ⟨modrm, sib, disp, trailing⟩ := f
    dsimp only [Option.isSome] at hs' ⊢
    rw [fieldsFit_block (by simp [needsModRM]) hm, ht x]
    constructor
    · rintro ⟨m, h1, hsm, h3, h4⟩
      cases h1
      obtain ⟨f1, rfl, h5⟩ := List.map_eq_singleton_iff.1 h4
      refine ⟨_, rfl, ?_⟩
      simp [hw, h3, h5]
    · rintro ⟨i, h1, h2⟩
      unfold ofRmF at h1
      split at h1
      · rename_i heq
        cases heq
        cases h1
        rw [hw] at h2
        simp only [Bool.and_eq_true, beq_iff_eq] at h2
        exact ⟨_, rfl, by simp [segmentMissing, hs], h2.1, by simp [h2]⟩
      · cases h1

theorem ofLone_good {k : Key} {d : OpcodeDescriptor} {g : BitVec 2 → BitVec 3 → BitVec 3 → Instr}
    (hd : defaultTable.descriptor? k none = some d)
    (hp : ∀ a b c, (g a b c).parts = ⟨k, none, .lone a b c⟩)
    (he : ∀ a b c s, exec (g a b c) s = serveRow k d (.lone a b c) s)
    (hn : needsModRM false d = true) (hm : d.specs.any Spec.readsMem = false)
    (hs : d.specs.any Spec.isS = false) (ht : ∀ x, sized x d [])
    (hw : ∀ x a b c, (g a b c).wellFormed x = (true)) : Maker.Good (k, none, ofLone g) := by
  refine ⟨d, hd, fun f i h hs' => ?_, fun x f hs' => ?_⟩
  · dsimp only at h ⊢
    unfold ofLone at h
    split at h
    · cases h
      exact ⟨hp .., fun s => he _ _ _ s⟩
    · cases h
  · obtain ⟨modrm, sib, disp, trailing⟩ := f
    dsimp only [Option.isSome] at hs' ⊢
    rw [fieldsFit_lone hn hm hs, ht x]
    constructor
    · rintro ⟨m, h1, h2, h3, h4⟩
      cases h1; cases h2; cases h3
      cases List.map_eq_nil_iff.1 h4
      refine ⟨_, rfl, ?_⟩
      rw [hw]
    · rintro ⟨i, h1, h2⟩
      unfold ofLone at h1
      split at h1
      · rename_i heq
        cases heq
        cases h1
        rw [hw] at h2
        exact ⟨_, rfl, rfl, rfl, rfl⟩
      · cases h1

/-! ## Every maker -/

theorem rowsOne0_good : ∀ m ∈ rowsOne0, Maker.Good m :=
  List.forall_mem_cons.2 ⟨ofReg_good (by decide +kernel) (fun _ _ => rfl) (fun _ _ _ => rfl) rfl rfl (fun _ => rfl) (fun _ _ _ => rfl),
  List.forall_mem_cons.2 ⟨ofReg_good (by decide +kernel) (fun _ _ => rfl) (fun _ _ _ => rfl) rfl rfl (fun _ => rfl) (fun _ _ _ => rfl),
  List.forall_mem_cons.2 ⟨ofReg_good (by decide +kernel) (fun _ _ => rfl) (fun _ _ _ => rfl) rfl rfl (fun _ => rfl) (fun _ _ _ => rfl),
  List.forall_mem_cons.2 ⟨ofReg_good (by decide +kernel) (fun _ _ => rfl) (fun _ _ _ => rfl) rfl rfl (fun _ => rfl) (fun _ _ _ => rfl),
  List.forall_mem_cons.2 ⟨ofPlain8_good (by decide +kernel) (fun _ => rfl) (fun _ _ => rfl) rfl (fun _ => rfl) (fun _ _ => rfl),
  List.forall_mem_cons.2 ⟨ofPlainF_good (fun a => a.osz.bytes) (by decide +kernel) (fun _ => rfl) (fun _ _ => rfl) rfl (fun _ => rfl) (fun _ _ => rfl),
  List.forall_mem_cons.2 ⟨ofPlain_good (by decide +kernel) rfl (fun _ => rfl) rfl (fun _ => rfl) (fun _ => rfl),
  List.forall_mem_cons.2 ⟨ofPlain_good (by decide +kernel) rfl (fun _ => rfl) rfl (fun _ => rfl) (fun _ => rfl),
  List.forall_mem_cons.2 ⟨ofReg_good (by decide +kernel) (fun _ _ => rfl) (fun _ _ _ => rfl) rfl rfl (fun _ => rfl) (fun _ _ _ => rfl),
  List.forall_mem_cons.2 ⟨ofReg_good (by decide +kernel) (fun _ _ => rfl) (fun _ _ _ => rfl) rfl rfl (fun _ => rfl) (fun _ _ _ => rfl),
  List.forall_mem_cons.2 ⟨ofReg_good (by decide +kernel) (fun _ _ => rfl) (fun _ _ _ => rfl) rfl rfl (fun _ => rfl) (fun _ _ _ => rfl),
  List.forall_mem_cons.2 ⟨ofReg_good (by decide +kernel) (fun _ _ => rfl) (fun _ _ _ => rfl) rfl rfl (fun _ => rfl) (fun _ _ _ => rfl),
  List.forall_mem_cons.2 ⟨ofPlain8_good (by decide +kernel) (fun _ => rfl) (fun _ _ => rfl) rfl (fun _ => rfl) (fun _ _ => rfl),
  List.forall_mem_cons.2 ⟨ofPlainF_good (fun a => a.osz.bytes) (by decide +kernel) (fun _ => rfl) (fun _ _ => rfl) rfl (fun _ => rfl) (fun _ _ => rfl),
  List.forall_mem_cons.2 ⟨ofPlain_good (by decide +kernel) rfl (fun _ => rfl) rfl (fun _ => rfl) (fun _ => rfl),
  fun _ h => nomatch h⟩⟩⟩⟩⟩⟩⟩⟩⟩⟩⟩⟩⟩⟩⟩

theorem rowsOne1_good : ∀ m ∈ rowsOne1, Maker.Good m :=
  List.forall_mem_cons.2 ⟨ofReg_good (by decide +kernel) (fun _ _ => rfl) (fun _ _ _ => rfl) rfl rfl (fun _ => rfl) (fun _ _ _ => rfl),
  List.forall_mem_cons.2 ⟨ofReg_good (by decide +kernel) (fun _ _ => rfl) (fun _ _ _ => rfl) rfl rfl (fun _ => rfl) (fun _ _ _ => rfl),
  List.forall_mem_cons.2 ⟨ofReg_good (by decide +kernel) (fun _ _ => rfl) (fun _ _ _ => rfl) rfl rfl (fun _ => rfl) (fun _ _ _ => rfl),
  List.forall_mem_cons.2 ⟨ofReg_good (by decide +kernel) (fun _ _ => rfl) (fun _ _ _ => rfl) rfl rfl (fun _ => rfl) (fun _ _ _ => rfl),
  List.forall_mem_cons.2 ⟨ofPlain8_good (by decide +kernel) (fun _ => rfl) (fun _ _ => rfl) rfl (fun _ => rfl) (fun _ _ => rfl),
  List.forall_mem_cons.2 ⟨ofPlainF_good (fun a => a.osz.bytes) (by decide +kernel) (fun _ => rfl) (fun _ _ => rfl) rfl (fun _ => rfl) (fun _ _ => rfl),
  List.forall_mem_cons.2 ⟨ofPlain_good (by decide +kernel) rfl (fun _ => rfl) rfl (fun _ => rfl) (fun _ => rfl),
  List.forall_mem_cons.2 ⟨ofPlain_good (by decide +kernel) rfl (fun _ => rfl) rfl (fun _ => rfl) (fun _ => rfl),
  List.forall_mem_cons.2 ⟨ofReg_good (by decide +kernel) (fun _ _ => rfl) (fun _ _ _ => rfl) rfl rfl (fun _ => rfl) (fun _ _ _ => rfl),
  List.forall_mem_cons.2 ⟨ofReg_good (by decide +kernel) (fun _ _ => rfl) (fun _ _ _ => rfl) rfl rfl (fun _ => rfl) (fun _ _ _ => rfl),
  List.forall_mem_cons.2 ⟨ofReg_good (by decide +kernel) (fun _ _ => rfl) (fun _ _ _ => rfl) rfl rfl (fun _ => rfl) (fun _ _ _ => rfl),
  List.forall_mem_cons.2 ⟨ofReg_good (by decide +kernel) (fun _ _ => rfl) (fun _ _ _ => rfl) rfl rfl (fun _ => rfl) (fun _ _ _ => rfl),
  List.forall_mem_cons.2 ⟨ofPlain8_good (by decide +kernel) (fun _ => rfl) (fun _ _ => rfl) rfl (fun _ => rfl) (fun _ _ => rfl),
  List.forall_mem_cons.2 ⟨ofPlainF_good (fun a => a.osz.bytes) (by decide +kernel) (fun _ => rfl) (fun _ _ => rfl) rfl (fun _ => rfl) (fun _ _ => rfl),
  List.forall_mem_cons.2 ⟨ofPlain_good (by decide +kernel) rfl (fun _ => rfl) rfl (fun _ => rfl) (fun _ => rfl),
  List.forall_mem_cons.2 ⟨ofPlain_good (by decide +kernel) rfl (fun _ => rfl) rfl (fun _ => rfl) (fun _ => rfl),
  fun _ h => nomatch h⟩⟩⟩⟩⟩⟩⟩⟩⟩⟩⟩⟩⟩⟩⟩⟩

theorem rowsOne2_good : ∀ m ∈ rowsOne2, Maker.Good m :=
  List.forall_mem_cons.2 ⟨ofReg_good (by decide +kernel) (fun _ _ => rfl) (fun _ _ _ => rfl) rfl rfl (fun _ => rfl) (fun _ _ _ => rfl),
  List.forall_mem_cons.2 ⟨ofReg_good (by decide +kernel) (fun _ _ => rfl) (fun _ _ _ => rfl) rfl rfl (fun _ => rfl) (fun _ _ _ => rfl),
  List.forall_mem_cons.2 ⟨ofReg_good (by decide +kernel) (fun _ _ => rfl) (fun _ _ _ => rfl) rfl rfl (fun _ => rfl) (fun _ _ _ => rfl),
  List.forall_mem_cons.2 ⟨ofReg_good (by decide +kernel) (fun _ _ => rfl) (fun _ _ _ => rfl) rfl rfl (fun _ => rfl) (fun _ _ _ => rfl),
  List.forall_mem_cons.2 ⟨ofPlain8_good (by decide +kernel) (fun _ => rfl) (fun _ _ => rfl) rfl (fun _ => rfl) (fun _ _ => rfl),
  List.forall_mem_cons.2 ⟨ofPlainF_good (fun a => a.osz.bytes) (by decide +kernel) (fun _ => rfl) (fun _ _ => rfl) rfl (fun _ => rfl) (fun _ _ => rfl),
  List.forall_mem_cons.2 ⟨ofPlain_good (by decide +kernel) rfl (fun _ => rfl) rfl (fun _ => rfl) (fun _ => rfl),
  List.forall_mem_cons.2 ⟨ofReg_good (by decide +kernel) (fun _ _ => rfl) (fun _ _ _ => rfl) rfl rfl (fun _ => rfl) (fun _ _ _ => rfl),
  List.forall_mem_cons.2 ⟨ofReg_good (by decide +kernel) (fun _ _ => rfl) (fun _ _ _ => rfl) rfl rfl (fun _ => rfl) (fun _ _ _ => rfl),
  List.forall_mem_cons.2 ⟨ofReg_good (by decide +kernel) (fun _ _ => rfl) (fun _ _ _ => rfl) rfl rfl (fun _ => rfl) (fun _ _ _ => rfl),
  List.forall_mem_cons.2 ⟨ofReg_good (by decide +kernel) (fun _ _ => rfl) (fun _ _ _ => rfl) rfl rfl (fun _ => rfl) (fun _ _ _ => rfl),
  List.forall_mem_cons.2 ⟨ofPlain8_good (by decide +kernel) (fun _ => rfl) (fun _ _ => rfl) rfl (fun _ => rfl) (fun _ _ => rfl),
  List.forall_mem_cons.2 ⟨ofPlainF_good (fun a => a.osz.bytes) (by decide +kernel) (fun _ => rfl) (fun _ _ => rfl) rfl (fun _ => rfl) (fun _ _ => rfl),
  List.forall_mem_cons.2 ⟨ofPlain_good (by decide +kernel) rfl (fun _ => rfl) rfl (fun _ => rfl) (fun _ => rfl),
  fun _ h => nomatch h⟩⟩⟩⟩⟩⟩⟩⟩⟩⟩⟩⟩⟩⟩

theorem rowsOne3_good : ∀ m ∈ rowsOne3, Maker.Good m :=
  List.forall_mem_cons.2 ⟨ofReg_good (by decide +kernel) (fun _ _ => rfl) (fun _ _ _ => rfl) rfl rfl (fun _ => rfl) (fun _ _ _ => rfl),
  List.forall_mem_cons.2 ⟨ofReg_good (by decide +kernel) (fun _ _ => rfl) (fun _ _ _ => rfl) rfl rfl (fun _ => rfl) (fun _ _ _ => rfl),
  List.forall_mem_cons.2 ⟨ofReg_good (by decide +kernel) (fun _ _ => rfl) (fun _ _ _ => rfl) rfl rfl (fun _ => rfl) (fun _ _ _ => rfl),
  List.forall_mem_cons.2 ⟨ofReg_good (by decide +kernel) (fun _ _ => rfl) (fun _ _ _ => rfl) rfl rfl (fun _ => rfl) (fun _ _ _ => rfl),
  List.forall_mem_cons.2 ⟨ofPlain8_good (by decide +kernel) (fun _ => rfl) (fun _ _ => rfl) rfl (fun _ => rfl) (fun _ _ => rfl),
  List.forall_mem_cons.2 ⟨ofPlainF_good (fun a => a.osz.bytes) (by decide +kernel) (fun _ => rfl) (fun _ _ => rfl) rfl (fun _ => rfl) (fun _ _ => rfl),
  List.forall_mem_cons.2 ⟨ofPlain_good (by decide +kernel) rfl (fun _ => rfl) rfl (fun _ => rfl) (fun _ => rfl),
  List.forall_mem_cons.2 ⟨ofReg_good (by decide +kernel) (fun _ _ => rfl) (fun _ _ _ => rfl) rfl rfl (fun _ => rfl) (fun _ _ _ => rfl),
  List.forall_mem_cons.2 ⟨ofReg_good (by decide +kernel) (fun _ _ => rfl) (fun _ _ _ => rfl) rfl rfl (fun _ => rfl) (fun _ _ _ => rfl),
  List.forall_mem_cons.2 ⟨ofReg_good (by decide +kernel) (fun _ _ => rfl) (fun _ _ _ => rfl) rfl rfl (fun _ => rfl) (fun _ _ _ => rfl),
  List.forall_mem_cons.2 ⟨ofReg_good (by decide +kernel) (fun _ _ => rfl) (fun _ _ _ => rfl) rfl rfl (fun _ => rfl) (fun _ _ _ => rfl),
  List.forall_mem_cons.2 ⟨ofPlain8_good (by decide +kernel) (fun _ => rfl) (fun _ _ => rfl) rfl (fun _ => rfl) (fun _ _ => rfl),
  List.forall_mem_cons.2 ⟨ofPlainF_good (fun a => a.osz.bytes) (by decide +kernel) (fun _ => rfl) (fun _ _ => rfl) rfl (fun _ => rfl) (fun _ _ => rfl),
  List.forall_mem_cons.2 ⟨ofPlain_good (by decide +kernel) rfl (fun _ => rfl) rfl (fun _ => rfl) (fun _ => rfl),
  fun _ h => nomatch h⟩⟩⟩⟩⟩⟩⟩⟩⟩⟩⟩⟩⟩⟩

theorem rowsOne4_good : ∀ m ∈ rowsOne4, Maker.Good m :=
  List.forall_mem_cons.2 ⟨ofPlain_good (by decide +kernel) rfl (fun _ => rfl) rfl (fun _ => rfl) (fun _ => rfl),
  List.forall_mem_cons.2 ⟨ofPlain_good (by decide +kernel) rfl (fun _ => rfl) rfl (fun _ => rfl) (fun _ => rfl),
  List.forall_mem_cons.2 ⟨ofPlain_good (by decide +kernel) rfl (fun _ => rfl) rfl (fun _ => rfl) (fun _ => rfl),
  List.forall_mem_cons.2 ⟨ofPlain_good (by decide +kernel) rfl (fun _ => rfl) rfl (fun _ => rfl) (fun _ => rfl),
  List.forall_mem_cons.2 ⟨ofPlain_good (by decide +kernel) rfl (fun _ => rfl) rfl (fun _ => rfl) (fun _ => rfl),
  List.forall_mem_cons.2 ⟨ofPlain_good (by decide +kernel) rfl (fun _ => rfl) rfl (fun _ => rfl) (fun _ => rfl),
  List.forall_mem_cons.2 ⟨ofPlain_good (by decide +kernel) rfl (fun _ => rfl) rfl (fun _ => rfl) (fun _ => rfl),
  List.forall_mem_cons.2 ⟨ofPlain_good (by decide +kernel) rfl (fun _ => rfl) rfl (fun _ => rfl) (fun _ => rfl),
  List.forall_mem_cons.2 ⟨ofPlain_good (by decide +kernel) rfl (fun _ => rfl) rfl (fun _ => rfl) (fun _ => rfl),
  List.forall_mem_cons.2 ⟨ofPlain_good (by decide +kernel) rfl (fun _ => rfl) rfl (fun _ => rfl) (fun _ => rfl),
  List.forall_mem_cons.2 ⟨ofPlain_good (by decide +kernel) rfl (fun _ => rfl) rfl (fun _ => rfl) (fun _ => rfl),
  List.forall_mem_cons.2 ⟨ofPlain_good (by decide +kernel) rfl (fun _ => rfl) rfl (fun _ => rfl) (fun _ => rfl),
  List.forall_mem_cons.2 ⟨ofPlain_good (by decide +kernel) rfl (fun _ => rfl) rfl (fun _ => rfl) (fun _ => rfl),
  List.forall_mem_cons.2 ⟨ofPlain_good (by decide +kernel) rfl (fun _ => rfl) rfl (fun _ => rfl) (fun _ => rfl),
  List.forall_mem_cons.2 ⟨ofPlain_good (by decide +kernel) rfl (fun _ => rfl) rfl (fun _ => rfl) (fun _ => rfl),
  List.forall_mem_cons.2 ⟨ofPlain_good (by decide +kernel) rfl (fun _ => rfl) rfl (fun _ => rfl) (fun _ => rfl),
  fun _ h => nomatch h⟩⟩⟩⟩⟩⟩⟩⟩⟩⟩⟩⟩⟩⟩⟩⟩

theorem rowsOne5_good : ∀ m ∈ rowsOne5, Maker.Good m :=
  List.forall_mem_cons.2 ⟨ofPlain_good (by decide +kernel) rfl (fun _ => rfl) rfl (fun _ => rfl) (fun _ => rfl),
  List.forall_mem_cons.2 ⟨ofPlain_good (by decide +kernel) rfl (fun _ => rfl) rfl (fun _ => rfl) (fun _ => rfl),
  List.forall_mem_cons.2 ⟨ofPlain_good (by decide +kernel) rfl (fun _ => rfl) rfl (fun _ => rfl) (fun _ => rfl),
  List.forall_mem_cons.2 ⟨ofPlain_good (by decide +kernel) rfl (fun _ => rfl) rfl (fun _ => rfl) (fun _ => rfl),
  List.forall_mem_cons.2 ⟨ofPlain_good (by decide +kernel) rfl (fun _ => rfl) rfl (fun _ => rfl) (fun _ => rfl),
  List.forall_mem_cons.2 ⟨ofPlain_good (by decide +kernel) rfl (fun _ => rfl) rfl (fun _ => rfl) (fun _ => rfl),
  List.forall_mem_cons.2 ⟨ofPlain_good (by decide +kernel) rfl (fun _ => rfl) rfl (fun _ => rfl) (fun _ => rfl),
  List.forall_mem_cons.2 ⟨ofPlain_good (by decide +kernel) rfl (fun _ => rfl) rfl (fun _ => rfl) (fun _ => rfl),
  List.forall_mem_cons.2 ⟨ofPlain_good (by decide +kernel) rfl (fun _ => rfl) rfl (fun _ => rfl) (fun _ => rfl),
  List.forall_mem_cons.2 ⟨ofPlain_good (by decide +kernel) rfl (fun _ => rfl) rfl (fun _ => rfl) (fun _ => rfl),
  List.forall_mem_cons.2 ⟨ofPlain_good (by decide +kernel) rfl (fun _ => rfl) rfl (fun _ => rfl) (fun _ => rfl),
  List.forall_mem_cons.2 ⟨ofPlain_good (by decide +kernel) rfl (fun _ => rfl) rfl (fun _ => rfl) (fun _ => rfl),
  List.forall_mem_cons.2 ⟨ofPlain_good (by decide +kernel) rfl (fun _ => rfl) rfl (fun _ => rfl) (fun _ => rfl),
  List.forall_mem_cons.2 ⟨ofPlain_good (by decide +kernel) rfl (fun _ => rfl) rfl (fun _ => rfl) (fun _ => rfl),
  List.forall_mem_cons.2 ⟨ofPlain_good (by decide +kernel) rfl (fun _ => rfl) rfl (fun _ => rfl) (fun _ => rfl),
  List.forall_mem_cons.2 ⟨ofPlain_good (by decide +kernel) rfl (fun _ => rfl) rfl (fun _ => rfl) (fun _ => rfl),
  fun _ h => nomatch h⟩⟩⟩⟩⟩⟩⟩⟩⟩⟩⟩⟩⟩⟩⟩⟩

theorem rowsOne6_good : ∀ m ∈ rowsOne6, Maker.Good m :=
  List.forall_mem_cons.2 ⟨ofPlain_good (by decide +kernel) rfl (fun _ => rfl) rfl (fun _ => rfl) (fun _ => rfl),
  List.forall_mem_cons.2 ⟨ofPlain_good (by decide +kernel) rfl (fun _ => rfl) rfl (fun _ => rfl) (fun _ => rfl),
  List.forall_mem_cons.2 ⟨ofReg_good (by decide +kernel) (fun _ _ => rfl) (fun _ _ _ => rfl) rfl rfl (fun _ => rfl) (fun _ _ _ => rfl),
  List.forall_mem_cons.2 ⟨ofReg_good (by decide +kernel) (fun _ _ => rfl) (fun _ _ _ => rfl) rfl rfl (fun _ => rfl) (fun _ _ _ => rfl),
  List.forall_mem_cons.2 ⟨ofPlainF_good (fun a => a.osz.bytes) (by decide +kernel) (fun _ => rfl) (fun _ _ => rfl) rfl (fun _ => rfl) (fun _ _ => rfl),
  List.forall_mem_cons.2 ⟨ofRegF_good (fun a => a.osz.bytes) (by decide +kernel) (fun _ _ _ => rfl) (fun _ _ _ _ => rfl) rfl rfl (fun _ => rfl) (fun _ _ _ _ => rfl),
  List.forall_mem_cons.2 ⟨ofPlain8_good (by decide +kernel) (fun _ => rfl) (fun _ _ => rfl) rfl (fun _ => rfl) (fun _ _ => rfl),
  List.forall_mem_cons.2 ⟨ofReg8_good (by decide +kernel) (fun _ _ _ => rfl) (fun _ _ _ _ => rfl) rfl rfl (fun _ => rfl) (fun _ _ _ _ => rfl),
  List.forall_mem_cons.2 ⟨ofPlain_good (by decide +kernel) rfl (fun _ => rfl) rfl (fun _ => rfl) (fun _ => rfl),
  List.forall_mem_cons.2 ⟨ofPlain_good (by decide +kernel) rfl (fun _ => rfl) rfl (fun _ => rfl) (fun _ => rfl),
  List.forall_mem_cons.2 ⟨ofPlain_good (by decide +kernel) rfl (fun _ => rfl) rfl (fun _ => rfl) (fun _ => rfl),
  List.forall_mem_cons.2 ⟨ofPlain_good (by decide +kernel) rfl (fun _ => rfl) rfl (fun _ => rfl) (fun _ => rfl),
  fun _ h => nomatch h⟩⟩⟩⟩⟩⟩⟩⟩⟩⟩⟩⟩

theorem rowsOne7_good : ∀ m ∈ rowsOne7, Maker.Good m :=
  List.forall_mem_cons.2 ⟨ofPlain8_good (by decide +kernel) (fun _ => rfl) (fun _ _ => rfl) rfl (fun _ => rfl) (fun _ _ => rfl),
  List.forall_mem_cons.2 ⟨ofPlain8_good (by decide +kernel) (fun _ => rfl) (fun _ _ => rfl) rfl (fun _ => rfl) (fun _ _ => rfl),
  List.forall_mem_cons.2 ⟨ofPlain8_good (by decide +kernel) (fun _ => rfl) (fun _ _ => rfl) rfl (fun _ => rfl) (fun _ _ => rfl),
  List.forall_mem_cons.2 ⟨ofPlain8_good (by decide +kernel) (fun _ => rfl) (fun _ _ => rfl) rfl (fun _ => rfl) (fun _ _ => rfl),
  List.forall_mem_cons.2 ⟨ofPlain8_good (by decide +kernel) (fun _ => rfl) (fun _ _ => rfl) rfl (fun _ => rfl) (fun _ _ => rfl),
  List.forall_mem_cons.2 ⟨ofPlain8_good (by decide +kernel) (fun _ => rfl) (fun _ _ => rfl) rfl (fun _ => rfl) (fun _ _ => rfl),
  List.forall_mem_cons.2 ⟨ofPlain8_good (by decide +kernel) (fun _ => rfl) (fun _ _ => rfl) rfl (fun _ => rfl) (fun _ _ => rfl),
  List.forall_mem_cons.2 ⟨ofPlain8_good (by decide +kernel) (fun _ => rfl) (fun _ _ => rfl) rfl (fun _ => rfl) (fun _ _ => rfl),
  List.forall_mem_cons.2 ⟨ofPlain8_good (by decide +kernel) (fun _ => rfl) (fun _ _ => rfl) rfl (fun _ => rfl) (fun _ _ => rfl),
  List.forall_mem_cons.2 ⟨ofPlain8_good (by decide +kernel) (fun _ => rfl) (fun _ _ => rfl) rfl (fun _ => rfl) (fun _ _ => rfl),
  List.forall_mem_cons.2 ⟨ofPlain8_good (by decide +kernel) (fun _ => rfl) (fun _ _ => rfl) rfl (fun _ => rfl) (fun _ _ => rfl),
  List.forall_mem_cons.2 ⟨ofPlain8_good (by decide +kernel) (fun _ => rfl) (fun _ _ => rfl) rfl (fun _ => rfl) (fun _ _ => rfl),
  List.forall_mem_cons.2 ⟨ofPlain8_good (by decide +kernel) (fun _ => rfl) (fun _ _ => rfl) rfl (fun _ => rfl) (fun _ _ => rfl),
  List.forall_mem_cons.2 ⟨ofPlain8_good (by decide +kernel) (fun _ => rfl) (fun _ _ => rfl) rfl (fun _ => rfl) (fun _ _ => rfl),
  List.forall_mem_cons.2 ⟨ofPlain8_good (by decide +kernel) (fun _ => rfl) (fun _ _ => rfl) rfl (fun _ => rfl) (fun _ _ => rfl),
  List.forall_mem_cons.2 ⟨ofPlain8_good (by decide +kernel) (fun _ => rfl) (fun _ _ => rfl) rfl (fun _ => rfl) (fun _ _ => rfl),
  fun _ h => nomatch h⟩⟩⟩⟩⟩⟩⟩⟩⟩⟩⟩⟩⟩⟩⟩⟩

theorem rowsOne8_good : ∀ m ∈ rowsOne8, Maker.Good m :=
  List.forall_mem_cons.2 ⟨ofRm8_good (by decide +kernel) (fun _ _ => rfl) (fun _ _ _ => rfl) rfl rfl (fun _ => rfl) (fun _ _ _ => rfl),
  List.forall_mem_cons.2 ⟨ofRm8_good (by decide +kernel) (fun _ _ => rfl) (fun _ _ _ => rfl) rfl rfl (fun _ => rfl) (fun _ _ _ => rfl),
  List.forall_mem_cons.2 ⟨ofRm8_good (by decide +kernel) (fun _ _ => rfl) (fun _ _ _ => rfl) rfl rfl (fun _ => rfl) (fun _ _ _ => rfl),
  List.forall_mem_cons.2 ⟨ofRm8_good (by decide +kernel) (fun _ _ => rfl) (fun _ _ _ => rfl) rfl rfl (fun _ => rfl) (fun _ _ _ => rfl),
  List.forall_mem_cons.2 ⟨ofRm8_good (by decide +kernel) (fun _ _ => rfl) (fun _ _ _ => rfl) rfl rfl (fun _ => rfl) (fun _ _ _ => rfl),
  List.forall_mem_cons.2 ⟨ofRm8_good (by decide +kernel) (fun _ _ => rfl) (fun _ _ _ => rfl) rfl rfl (fun _ => rfl) (fun _ _ _ => rfl),
  List.forall_mem_cons.2 ⟨ofRm8_good (by decide +kernel) (fun _ _ => rfl) (fun _ _ _ => rfl) rfl rfl (fun _ => rfl) (fun _ _ _ => rfl),
  List.forall_mem_cons.2 ⟨ofRm8_good (by decide +kernel) (fun _ _ => rfl) (fun _ _ _ => rfl) rfl rfl (fun _ => rfl) (fun _ _ _ => rfl),
  List.forall_mem_cons.2 ⟨ofRmF_good (fun a => a.osz.bytes) (by decide +kernel) (fun _ _ => rfl) (fun _ _ _ => rfl) rfl rfl (fun _ => rfl) (fun _ _ _ => rfl),
  List.forall_mem_cons.2 ⟨ofRmF_good (fun a => a.osz.bytes) (by decide +kernel) (fun _ _ => rfl) (fun _ _ _ => rfl) rfl rfl (fun _ => rfl) (fun _ _ _ => rfl),
  List.forall_mem_cons.2 ⟨ofRmF_good (fun a => a.osz.bytes) (by decide +kernel) (fun _ _ => rfl) (fun _ _ _ => rfl) rfl rfl (fun _ => rfl) (fun _ _ _ => rfl),
  List.forall_mem_cons.2 ⟨ofRmF_good (fun a => a.osz.bytes) (by decide +kernel) (fun _ _ => rfl) (fun _ _ _ => rfl) rfl rfl (fun _ => rfl) (fun _ _ _ => rfl),
  List.forall_mem_cons.2 ⟨ofRmF_good (fun a => a.osz.bytes) (by decide +kernel) (fun _ _ => rfl) (fun _ _ _ => rfl) rfl rfl (fun _ => rfl) (fun _ _ _ => rfl),
  List.forall_mem_cons.2 ⟨ofRmF_good (fun a => a.osz.bytes) (by decide +kernel) (fun _ _ => rfl) (fun _ _ _ => rfl) rfl rfl (fun _ => rfl) (fun _ _ _ => rfl),
  List.forall_mem_cons.2 ⟨ofRmF_good (fun a => a.osz.bytes) (by decide +kernel) (fun _ _ => rfl) (fun _ _ _ => rfl) rfl rfl (fun _ => rfl) (fun _ _ _ => rfl),
  List.forall_mem_cons.2 ⟨ofRmF_good (fun a => a.osz.bytes) (by decide +kernel) (fun _ _ => rfl) (fun _ _ _ => rfl) rfl rfl (fun _ => rfl) (fun _ _ _ => rfl),
  List.forall_mem_cons.2 ⟨ofRm8_good (by decide +kernel) (fun _ _ => rfl) (fun _ _ _ => rfl) rfl rfl (fun _ => rfl) (fun _ _ _ => rfl),
  List.forall_mem_cons.2 ⟨ofRm8_good (by decide +kernel) (fun _ _ => rfl) (fun _ _ _ => rfl) rfl rfl (fun _ => rfl) (fun _ _ _ => rfl),
  List.forall_mem_cons.2 ⟨ofRm8_good (by decide +kernel) (fun _ _ => rfl) (fun _ _ _ => rfl) rfl rfl (fun _ => rfl) (fun _ _ _ => rfl),
  List.forall_mem_cons.2 ⟨ofRm8_good (by decide +kernel) (fun _ _ => rfl) (fun _ _ _ => rfl) rfl rfl (fun _ => rfl) (fun _ _ _ => rfl),
  List.forall_mem_cons.2 ⟨ofRm8_good (by decide +kernel) (fun _ _ => rfl) (fun _ _ _ => rfl) rfl rfl (fun _ => rfl) (fun _ _ _ => rfl),
  List.forall_mem_cons.2 ⟨ofRm8_good (by decide +kernel) (fun _ _ => rfl) (fun _ _ _ => rfl) rfl rfl (fun _ => rfl) (fun _ _ _ => rfl),
  List.forall_mem_cons.2 ⟨ofRm8_good (by decide +kernel) (fun _ _ => rfl) (fun _ _ _ => rfl) rfl rfl (fun _ => rfl) (fun _ _ _ => rfl),
  List.forall_mem_cons.2 ⟨ofRm8_good (by decide +kernel) (fun _ _ => rfl) (fun _ _ _ => rfl) rfl rfl (fun _ => rfl) (fun _ _ _ => rfl),
  List.forall_mem_cons.2 ⟨ofRm8_good (by decide +kernel) (fun _ _ => rfl) (fun _ _ _ => rfl) rfl rfl (fun _ => rfl) (fun _ _ _ => rfl),
  List.forall_mem_cons.2 ⟨ofRm8_good (by decide +kernel) (fun _ _ => rfl) (fun _ _ _ => rfl) rfl rfl (fun _ => rfl) (fun _ _ _ => rfl),
  List.forall_mem_cons.2 ⟨ofRm8_good (by decide +kernel) (fun _ _ => rfl) (fun _ _ _ => rfl) rfl rfl (fun _ => rfl) (fun _ _ _ => rfl),
  List.forall_mem_cons.2 ⟨ofRm8_good (by decide +kernel) (fun _ _ => rfl) (fun _ _ _ => rfl) rfl rfl (fun _ => rfl) (fun _ _ _ => rfl),
  List.forall_mem_cons.2 ⟨ofRm8_good (by decide +kernel) (fun _ _ => rfl) (fun _ _ _ => rfl) rfl rfl (fun _ => rfl) (fun _ _ _ => rfl),
  List.forall_mem_cons.2 ⟨ofRm8_good (by decide +kernel) (fun _ _ => rfl) (fun _ _ _ => rfl) rfl rfl (fun _ => rfl) (fun _ _ _ => rfl),
  List.forall_mem_cons.2 ⟨ofRm8_good (by decide +kernel) (fun _ _ => rfl) (fun _ _ _ => rfl) rfl rfl (fun _ => rfl) (fun _ _ _ => rfl),
  List.forall_mem_cons.2 ⟨ofRm8_good (by decide +kernel) (fun _ _ => rfl) (fun _ _ _ => rfl) rfl rfl (fun _ => rfl) (fun _ _ _ => rfl),
  List.forall_mem_cons.2 ⟨ofReg_good (by decide +kernel) (fun _ _ => rfl) (fun _ _ _ => rfl) rfl rfl (fun _ => rfl) (fun _ _ _ => rfl),
  List.forall_mem_cons.2 ⟨ofReg_good (by decide +kernel) (fun _ _ => rfl) (fun _ _ _ => rfl) rfl rfl (fun _ => rfl) (fun _ _ _ => rfl),
  List.forall_mem_cons.2 ⟨ofReg_good (by decide +kernel) (fun _ _ => rfl) (fun _ _ _ => rfl) rfl rfl (fun _ => rfl) (fun _ _ _ => rfl),
  List.forall_mem_cons.2 ⟨ofReg_good (by decide +kernel) (fun _ _ => rfl) (fun _ _ _ => rfl) rfl rfl (fun _ => rfl) (fun _ _ _ => rfl),
  List.forall_mem_cons.2 ⟨ofReg_good (by decide +kernel) (fun _ _ => rfl) (fun _ _ _ => rfl) rfl rfl (fun _ => rfl) (fun _ _ _ => rfl),
  List.forall_mem_cons.2 ⟨ofReg_good (by decide +kernel) (fun _ _ => rfl) (fun _ _ _ => rfl) rfl rfl (fun _ => rfl) (fun _ _ _ => rfl),
  List.forall_mem_cons.2 ⟨ofReg_good (by decide +kernel) (fun _ _ => rfl) (fun _ _ _ => rfl) rfl rfl (fun _ => rfl) (fun _ _ _ => rfl),
  List.forall_mem_cons.2 ⟨ofReg_good (by decide +kernel) (fun _ _ => rfl) (fun _ _ _ => rfl) rfl rfl (fun _ => rfl) (fun _ _ _ => rfl),
  List.forall_mem_cons.2 ⟨ofReg_good (by decide +kernel) (fun _ _ => rfl) (fun _ _ _ => rfl) rfl rfl (fun _ => rfl) (fun _ _ _ => rfl),
  List.forall_mem_cons.2 ⟨ofReg_good (by decide +kernel) (fun _ _ => rfl) (fun _ _ _ => rfl) rfl rfl (fun _ => rfl) (fun _ _ _ => rfl),
  List.forall_mem_cons.2 ⟨ofReg_good (by decide +kernel) (fun _ _ => rfl) (fun _ _ _ => rfl) rfl rfl (fun _ => rfl) (fun _ _ _ => rfl),
  List.forall_mem_cons.2 ⟨ofRm_good (by decide +kernel) (fun _ => rfl) (fun _ _ => rfl) rfl rfl (fun _ => rfl) (fun _ _ => rfl),
  fun _ h => nomatch h⟩⟩⟩⟩⟩⟩⟩⟩⟩⟩⟩⟩⟩⟩⟩⟩⟩⟩⟩⟩⟩⟩⟩⟩⟩⟩⟩⟩⟩⟩⟩⟩⟩⟩⟩⟩⟩⟩⟩⟩⟩⟩⟩⟩

theorem rowsOne9_good : ∀ m ∈ rowsOne9, Maker.Good m :=
  List.forall_mem_cons.2 ⟨ofPlain_good (by decide +kernel) rfl (fun _ => rfl) rfl (fun _ => rfl) (fun _ => rfl),
  List.forall_mem_cons.2 ⟨ofPlain_good (by decide +kernel) rfl (fun _ => rfl) rfl (fun _ => rfl) (fun _ => rfl),
  List.forall_mem_cons.2 ⟨ofPlain_good (by decide +kernel) rfl (fun _ => rfl) rfl (fun _ => rfl) (fun _ => rfl),
  List.forall_mem_cons.2 ⟨ofPlain_good (by decide +kernel) rfl (fun _ => rfl) rfl (fun _ => rfl) (fun _ => rfl),
  List.forall_mem_cons.2 ⟨ofPlain_good (by decide +kernel) rfl (fun _ => rfl) rfl (fun _ => rfl) (fun _ => rfl),
  List.forall_mem_cons.2 ⟨ofPlain_good (by decide +kernel) rfl (fun _ => rfl) rfl (fun _ => rfl) (fun _ => rfl),
  List.forall_mem_cons.2 ⟨ofPlain_good (by decide +kernel) rfl (fun _ => rfl) rfl (fun _ => rfl) (fun _ => rfl),
  List.forall_mem_cons.2 ⟨ofPlain_good (by decide +kernel) rfl (fun _ => rfl) rfl (fun _ => rfl) (fun _ => rfl),
  List.forall_mem_cons.2 ⟨ofPlain_good (by decide +kernel) rfl (fun _ => rfl) rfl (fun _ => rfl) (fun _ => rfl),
  List.forall_mem_cons.2 ⟨ofPlain_good (by decide +kernel) rfl (fun _ => rfl) rfl (fun _ => rfl) (fun _ => rfl),
  List.forall_mem_cons.2 ⟨ofPlainF16_good (fun a => a.osz.bytes) (by decide +kernel) (fun _ _ => rfl) (fun _ _ _ => rfl) rfl (fun _ => rfl) (fun _ _ _ => rfl),
  List.forall_mem_cons.2 ⟨ofPlain_good (by decide +kernel) rfl (fun _ => rfl) rfl (fun _ => rfl) (fun _ => rfl),
  List.forall_mem_cons.2 ⟨ofPlain_good (by decide +kernel) rfl (fun _ => rfl) rfl (fun _ => rfl) (fun _ => rfl),
  List.forall_mem_cons.2 ⟨ofPlain_good (by decide +kernel) rfl (fun _ => rfl) rfl (fun _ => rfl) (fun _ => rfl),
  List.forall_mem_cons.2 ⟨ofPlain_good (by decide +kernel) rfl (fun _ => rfl) rfl (fun _ => rfl) (fun _ => rfl),
  List.forall_mem_cons.2 ⟨ofPlain_good (by decide +kernel) rfl (fun _ => rfl) rfl (fun _ => rfl) (fun _ => rfl),
  fun _ h => nomatch h⟩⟩⟩⟩⟩⟩⟩⟩⟩⟩⟩⟩⟩⟩⟩⟩

theorem rowsOneA_good : ∀ m ∈ rowsOneA, Maker.Good m :=
  List.forall_mem_cons.2 ⟨ofPlainF_good (fun a => a.asz.bytes) (by decide +kernel) (fun _ => rfl) (fun _ _ => rfl) rfl (fun _ => rfl) (fun _ _ => rfl),
  List.forall_mem_cons.2 ⟨ofPlainF_good (fun a => a.asz.bytes) (by decide +kernel) (fun _ => rfl) (fun _ _ => rfl) rfl (fun _ => rfl) (fun _ _ => rfl),
  List.forall_mem_cons.2 ⟨ofPlainF_good (fun a => a.asz.bytes) (by decide +kernel) (fun _ => rfl) (fun _ _ => rfl) rfl (fun _ => rfl) (fun _ _ => rfl),
  List.forall_mem_cons.2 ⟨ofPlainF_good (fun a => a.asz.bytes) (by decide +kernel) (fun _ => rfl) (fun _ _ => rfl) rfl (fun _ => rfl) (fun _ _ => rfl),
  List.forall_mem_cons.2 ⟨ofPlain_good (by decide +kernel) rfl (fun _ => rfl) rfl (fun _ => rfl) (fun _ => rfl),
  List.forall_mem_cons.2 ⟨ofPlain_good (by decide +kernel) rfl (fun _ => rfl) rfl (fun _ => rfl) (fun _ => rfl),
  List.forall_mem_cons.2 ⟨ofPlain_good (by decide +kernel) rfl (fun _ => rfl) rfl (fun _ => rfl) (fun _ => rfl),
  List.forall_mem_cons.2 ⟨ofPlain_good (by decide +kernel) rfl (fun _ => rfl) rfl (fun _ => rfl) (fun _ => rfl),
  List.forall_mem_cons.2 ⟨ofPlain8_good (by decide +kernel) (fun _ => rfl) (fun _ _ => rfl) rfl (fun _ => rfl) (fun _ _ => rfl),
  List.forall_mem_cons.2 ⟨ofPlainF_good (fun a => a.osz.bytes) (by decide +kernel) (fun _ => rfl) (fun _ _ => rfl) rfl (fun _ => rfl) (fun _ _ => rfl),
  List.forall_mem_cons.2 ⟨ofPlain_good (by decide +kernel) rfl (fun _ => rfl) rfl (fun _ => rfl) (fun _ => rfl),
  List.forall_mem_cons.2 ⟨ofPlain_good (by decide +kernel) rfl (fun _ => rfl) rfl (fun _ => rfl) (fun _ => rfl),
  List.forall_mem_cons.2 ⟨ofPlain_good (by decide +kernel) rfl (fun _ => rfl) rfl (fun _ => rfl) (fun _ => rfl),
  List.forall_mem_cons.2 ⟨ofPlain_good (by decide +kernel) rfl (fun _ => rfl) rfl (fun _ => rfl) (fun _ => rfl),
  List.forall_mem_cons.2 ⟨ofPlain_good (by decide +kernel) rfl (fun _ => rfl) rfl (fun _ => rfl) (fun _ => rfl),
  List.forall_mem_cons.2 ⟨ofPlain_good (by decide +kernel) rfl (fun _ => rfl) rfl (fun _ => rfl) (fun _ => rfl),
  fun _ h => nomatch h⟩⟩⟩⟩⟩⟩⟩⟩⟩⟩⟩⟩⟩⟩⟩⟩

theorem rowsOneB_good : ∀ m ∈ rowsOneB, Maker.Good m :=
  List.forall_mem_cons.2 ⟨ofPlain8_good (by decide +kernel) (fun _ => rfl) (fun _ _ => rfl) rfl (fun _ => rfl) (fun _ _ => rfl),
  List.forall_mem_cons.2 ⟨ofPlain8_good (by decide +kernel) (fun _ => rfl) (fun _ _ => rfl) rfl (fun _ => rfl) (fun _ _ => rfl),
  List.forall_mem_cons.2 ⟨ofPlain8_good (by decide +kernel) (fun _ => rfl) (fun _ _ => rfl) rfl (fun _ => rfl) (fun _ _ => rfl),
  List.forall_mem_cons.2 ⟨ofPlain8_good (by decide +kernel) (fun _ => rfl) (fun _ _ => rfl) rfl (fun _ => rfl) (fun _ _ => rfl),
  List.forall_mem_cons.2 ⟨ofPlain8_good (by decide +kernel) (fun _ => rfl) (fun _ _ => rfl) rfl (fun _ => rfl) (fun _ _ => rfl),
  List.forall_mem_cons.2 ⟨ofPlain8_good (by decide +kernel) (fun _ => rfl) (fun _ _ => rfl) rfl (fun _ => rfl) (fun _ _ => rfl),
  List.forall_mem_cons.2 ⟨ofPlain8_good (by decide +kernel) (fun _ => rfl) (fun _ _ => rfl) rfl (fun _ => rfl) (fun _ _ => rfl),
  List.forall_mem_cons.2 ⟨ofPlain8_good (by decide +kernel) (fun _ => rfl) (fun _ _ => rfl) rfl (fun _ => rfl) (fun _ _ => rfl),
  List.forall_mem_cons.2 ⟨ofPlainF_good (fun a => a.osz.bytes) (by decide +kernel) (fun _ => rfl) (fun _ _ => rfl) rfl (fun _ => rfl) (fun _ _ => rfl),
  List.forall_mem_cons.2 ⟨ofPlainF_good (fun a => a.osz.bytes) (by decide +kernel) (fun _ => rfl) (fun _ _ => rfl) rfl (fun _ => rfl) (fun _ _ => rfl),
  List.forall_mem_cons.2 ⟨ofPlainF_good (fun a => a.osz.bytes) (by decide +kernel) (fun _ => rfl) (fun _ _ => rfl) rfl (fun _ => rfl) (fun _ _ => rfl),
  List.forall_mem_cons.2 ⟨ofPlainF_good (fun a => a.osz.bytes) (by decide +kernel) (fun _ => rfl) (fun _ _ => rfl) rfl (fun _ => rfl) (fun _ _ => rfl),
  List.forall_mem_cons.2 ⟨ofPlainF_good (fun a => a.osz.bytes) (by decide +kernel) (fun _ => rfl) (fun _ _ => rfl) rfl (fun _ => rfl) (fun _ _ => rfl),
  List.forall_mem_cons.2 ⟨ofPlainF_good (fun a => a.osz.bytes) (by decide +kernel) (fun _ => rfl) (fun _ _ => rfl) rfl (fun _ => rfl) (fun _ _ => rfl),
  List.forall_mem_cons.2 ⟨ofPlainF_good (fun a => a.osz.bytes) (by decide +kernel) (fun _ => rfl) (fun _ _ => rfl) rfl (fun _ => rfl) (fun _ _ => rfl),
  List.forall_mem_cons.2 ⟨ofPlainF_good (fun a => a.osz.bytes) (by decide +kernel) (fun _ => rfl) (fun _ _ => rfl) rfl (fun _ => rfl) (fun _ _ => rfl),
  fun _ h => nomatch h⟩⟩⟩⟩⟩⟩⟩⟩⟩⟩⟩⟩⟩⟩⟩⟩

theorem rowsOneC_good : ∀ m ∈ rowsOneC, Maker.Good m :=
  List.forall_mem_cons.2 ⟨ofRm8_good (by decide +kernel) (fun _ _ => rfl) (fun _ _ _ => rfl) rfl rfl (fun _ => rfl) (fun _ _ _ => rfl),
  List.forall_mem_cons.2 ⟨ofRm8_good (by decide +kernel) (fun _ _ => rfl) (fun _ _ _ => rfl) rfl rfl (fun _ => rfl) (fun _ _ _ => rfl),
  List.forall_mem_cons.2 ⟨ofRm8_good (by decide +kernel) (fun _ _ => rfl) (fun _ _ _ => rfl) rfl rfl (fun _ => rfl) (fun _ _ _ => rfl),
  List.forall_mem_cons.2 ⟨ofRm8_good (by decide +kernel) (fun _ _ => rfl) (fun _ _ _ => rfl) rfl rfl (fun _ => rfl) (fun _ _ _ => rfl),
  List.forall_mem_cons.2 ⟨ofRm8_good (by decide +kernel) (fun _ _ => rfl) (fun _ _ _ => rfl) rfl rfl (fun _ => rfl) (fun _ _ _ => rfl),
  List.forall_mem_cons.2 ⟨ofRm8_good (by decide +kernel) (fun _ _ => rfl) (fun _ _ _ => rfl) rfl rfl (fun _ => rfl) (fun _ _ _ => rfl),
  List.forall_mem_cons.2 ⟨ofRm8_good (by decide +kernel) (fun _ _ => rfl) (fun _ _ _ => rfl) rfl rfl (fun _ => rfl) (fun _ _ _ => rfl),
  List.forall_mem_cons.2 ⟨ofRm8_good (by decide +kernel) (fun _ _ => rfl) (fun _ _ _ => rfl) rfl rfl (fun _ => rfl) (fun _ _ _ => rfl),
  List.forall_mem_cons.2 ⟨ofRm8_good (by decide +kernel) (fun _ _ => rfl) (fun _ _ _ => rfl) rfl rfl (fun _ => rfl) (fun _ _ _ => rfl),
  List.forall_mem_cons.2 ⟨ofRm8_good (by decide +kernel) (fun _ _ => rfl) (fun _ _ _ => rfl) rfl rfl (fun _ => rfl) (fun _ _ _ => rfl),
  List.forall_mem_cons.2 ⟨ofRm8_good (by decide +kernel) (fun _ _ => rfl) (fun _ _ _ => rfl) rfl rfl (fun _ => rfl) (fun _ _ _ => rfl),
  List.forall_mem_cons.2 ⟨ofRm8_good (by decide +kernel) (fun _ _ => rfl) (fun _ _ _ => rfl) rfl rfl (fun _ => rfl) (fun _ _ _ => rfl),
  List.forall_mem_cons.2 ⟨ofRm8_good (by decide +kernel) (fun _ _ => rfl) (fun _ _ _ => rfl) rfl rfl (fun _ => rfl) (fun _ _ _ => rfl),
  List.forall_mem_cons.2 ⟨ofRm8_good (by decide +kernel) (fun _ _ => rfl) (fun _ _ _ => rfl) rfl rfl (fun _ => rfl) (fun _ _ _ => rfl),
  List.forall_mem_cons.2 ⟨ofPlain16_good (by decide +kernel) (fun _ => rfl) (fun _ _ => rfl) rfl (fun _ => rfl) (fun _ _ => rfl),
  List.forall_mem_cons.2 ⟨ofPlain_good (by decide +kernel) rfl (fun _ => rfl) rfl (fun _ => rfl) (fun _ => rfl),
  List.forall_mem_cons.2 ⟨ofReg_good (by decide +kernel) (fun _ _ => rfl) (fun _ _ _ => rfl) rfl rfl (fun _ => rfl) (fun _ _ _ => rfl),
  List.forall_mem_cons.2 ⟨ofReg_good (by decide +kernel) (fun _ _ => rfl) (fun _ _ _ => rfl) rfl rfl (fun _ => rfl) (fun _ _ _ => rfl),
  List.forall_mem_cons.2 ⟨ofRm8_good (by decide +kernel) (fun _ _ => rfl) (fun _ _ _ => rfl) rfl rfl (fun _ => rfl) (fun _ _ _ => rfl),
  List.forall_mem_cons.2 ⟨ofRmF_good (fun a => a.osz.bytes) (by decide +kernel) (fun _ _ => rfl) (fun _ _ _ => rfl) rfl rfl (fun _ => rfl) (fun _ _ _ => rfl),
  List.forall_mem_cons.2 ⟨ofPlain168_good (by decide +kernel) (fun _ _ => rfl) (fun _ _ _ => rfl) rfl (fun _ => rfl) (fun _ _ _ => rfl),
  List.forall_mem_cons.2 ⟨ofPlain_good (by decide +kernel) rfl (fun _ => rfl) rfl (fun _ => rfl) (fun _ => rfl),
  List.forall_mem_cons.2 ⟨ofPlain16_good (by decide +kernel) (fun _ => rfl) (fun _ _ => rfl) rfl (fun _ => rfl) (fun _ _ => rfl),
  List.forall_mem_cons.2 ⟨ofPlain_good (by decide +kernel) rfl (fun _ => rfl) rfl (fun _ => rfl) (fun _ => rfl),
  List.forall_mem_cons.2 ⟨ofPlain_good (by decide +kernel) rfl (fun _ => rfl) rfl (fun _ => rfl) (fun _ => rfl),
  List.forall_mem_cons.2 ⟨ofPlain8_good (by decide +kernel) (fun _ => rfl) (fun _ _ => rfl) rfl (fun _ => rfl) (fun _ _ => rfl),
  List.forall_mem_cons.2 ⟨ofPlain_good (by decide +kernel) rfl (fun _ => rfl) rfl (fun _ => rfl) (fun _ => rfl),
  List.forall_mem_cons.2 ⟨ofPlain_good (by decide +kernel) rfl (fun _ => rfl) rfl (fun _ => rfl) (fun _ => rfl),
  fun _ h => nomatch h⟩⟩⟩⟩⟩⟩⟩⟩⟩⟩⟩⟩⟩⟩⟩⟩⟩⟩⟩⟩⟩⟩⟩⟩⟩⟩⟩⟩

theorem rowsOneD_good : ∀ m ∈ rowsOneD, Maker.Good m :=
  List.forall_mem_cons.2 ⟨ofRm_good (by decide +kernel) (fun _ => rfl) (fun _ _ => rfl) rfl rfl (fun _ => rfl) (fun _ _ => rfl),
  List.forall_mem_cons.2 ⟨ofRm_good (by decide +kernel) (fun _ => rfl) (fun _ _ => rfl) rfl rfl (fun _ => rfl) (fun _ _ => rfl),
  List.forall_mem_cons.2 ⟨ofRm_good (by decide +kernel) (fun _ => rfl) (fun _ _ => rfl) rfl rfl (fun _ => rfl) (fun _ _ => rfl),
  List.forall_mem_cons.2 ⟨ofRm_good (by decide +kernel) (fun _ => rfl) (fun _ _ => rfl) rfl rfl (fun _ => rfl) (fun _ _ => rfl),
  List.forall_mem_cons.2 ⟨ofRm_good (by decide +kernel) (fun _ => rfl) (fun _ _ => rfl) rfl rfl (fun _ => rfl) (fun _ _ => rfl),
  List.forall_mem_cons.2 ⟨ofRm_good (by decide +kernel) (fun _ => rfl) (fun _ _ => rfl) rfl rfl (fun _ => rfl) (fun _ _ => rfl),
  List.forall_mem_cons.2 ⟨ofRm_good (by decide +kernel) (fun _ => rfl) (fun _ _ => rfl) rfl rfl (fun _ => rfl) (fun _ _ => rfl),
  List.forall_mem_cons.2 ⟨ofRm_good (by decide +kernel) (fun _ => rfl) (fun _ _ => rfl) rfl rfl (fun _ => rfl) (fun _ _ => rfl),
  List.forall_mem_cons.2 ⟨ofRm_good (by decide +kernel) (fun _ => rfl) (fun _ _ => rfl) rfl rfl (fun _ => rfl) (fun _ _ => rfl),
  List.forall_mem_cons.2 ⟨ofRm_good (by decide +kernel) (fun _ => rfl) (fun _ _ => rfl) rfl rfl (fun _ => rfl) (fun _ _ => rfl),
  List.forall_mem_cons.2 ⟨ofRm_good (by decide +kernel) (fun _ => rfl) (fun _ _ => rfl) rfl rfl (fun _ => rfl) (fun _ _ => rfl),
  List.forall_mem_cons.2 ⟨ofRm_good (by decide +kernel) (fun _ => rfl) (fun _ _ => rfl) rfl rfl (fun _ => rfl) (fun _ _ => rfl),
  List.forall_mem_cons.2 ⟨ofRm_good (by decide +kernel) (fun _ => rfl) (fun _ _ => rfl) rfl rfl (fun _ => rfl) (fun _ _ => rfl),
  List.forall_mem_cons.2 ⟨ofRm_good (by decide +kernel) (fun _ => rfl) (fun _ _ => rfl) rfl rfl (fun _ => rfl) (fun _ _ => rfl),
  List.forall_mem_cons.2 ⟨ofRm_good (by decide +kernel) (fun _ => rfl) (fun _ _ => rfl) rfl rfl (fun _ => rfl) (fun _ _ => rfl),
  List.forall_mem_cons.2 ⟨ofRm_good (by decide +kernel) (fun _ => rfl) (fun _ _ => rfl) rfl rfl (fun _ => rfl) (fun _ _ => rfl),
  List.forall_mem_cons.2 ⟨ofRm_good (by decide +kernel) (fun _ => rfl) (fun _ _ => rfl) rfl rfl (fun _ => rfl) (fun _ _ => rfl),
  List.forall_mem_cons.2 ⟨ofRm_good (by decide +kernel) (fun _ => rfl) (fun _ _ => rfl) rfl rfl (fun _ => rfl) (fun _ _ => rfl),
  List.forall_mem_cons.2 ⟨ofRm_good (by decide +kernel) (fun _ => rfl) (fun _ _ => rfl) rfl rfl (fun _ => rfl) (fun _ _ => rfl),
  List.forall_mem_cons.2 ⟨ofRm_good (by decide +kernel) (fun _ => rfl) (fun _ _ => rfl) rfl rfl (fun _ => rfl) (fun _ _ => rfl),
  List.forall_mem_cons.2 ⟨ofRm_good (by decide +kernel) (fun _ => rfl) (fun _ _ => rfl) rfl rfl (fun _ => rfl) (fun _ _ => rfl),
  List.forall_mem_cons.2 ⟨ofRm_good (by decide +kernel) (fun _ => rfl) (fun _ _ => rfl) rfl rfl (fun _ => rfl) (fun _ _ => rfl),
  List.forall_mem_cons.2 ⟨ofRm_good (by decide +kernel) (fun _ => rfl) (fun _ _ => rfl) rfl rfl (fun _ => rfl) (fun _ _ => rfl),
  List.forall_mem_cons.2 ⟨ofRm_good (by decide +kernel) (fun _ => rfl) (fun _ _ => rfl) rfl rfl (fun _ => rfl) (fun _ _ => rfl),
  List.forall_mem_cons.2 ⟨ofRm_good (by decide +kernel) (fun _ => rfl) (fun _ _ => rfl) rfl rfl (fun _ => rfl) (fun _ _ => rfl),
  List.forall_mem_cons.2 ⟨ofRm_good (by decide +kernel) (fun _ => rfl) (fun _ _ => rfl) rfl rfl (fun _ => rfl) (fun _ _ => rfl),
  List.forall_mem_cons.2 ⟨ofRm_good (by decide +kernel) (fun _ => rfl) (fun _ _ => rfl) rfl rfl (fun _ => rfl) (fun _ _ => rfl),
  List.forall_mem_cons.2 ⟨ofRm_good (by decide +kernel) (fun _ => rfl) (fun _ _ => rfl) rfl rfl (fun _ => rfl) (fun _ _ => rfl),
  List.forall_mem_cons.2 ⟨ofPlain8_good (by decide +kernel) (fun _ => rfl) (fun _ _ => rfl) rfl (fun _ => rfl) (fun _ _ => rfl),
  List.forall_mem_cons.2 ⟨ofPlain8_good (by decide +kernel) (fun _ => rfl) (fun _ _ => rfl) rfl (fun _ => rfl) (fun _ _ => rfl),
  List.forall_mem_cons.2 ⟨ofPlain_good (by decide +kernel) rfl (fun _ => rfl) rfl (fun _ => rfl) (fun _ => rfl),
  List.forall_mem_cons.2 ⟨ofPlain_good (by decide +kernel) rfl (fun _ => rfl) rfl (fun _ => rfl) (fun _ => rfl),
  List.forall_mem_cons.2 ⟨ofPlain_good (by decide +kernel) rfl (fun _ => rfl) rfl (fun _ => rfl) (fun _ => rfl),
  List.forall_mem_cons.2 ⟨ofPlain_good (by decide +kernel) rfl (fun _ => rfl) rfl (fun _ => rfl) (fun _ => rfl),
  List.forall_mem_cons.2 ⟨ofPlain_good (by decide +kernel) rfl (fun _ => rfl) rfl (fun _ => rfl) (fun _ => rfl),
  List.forall_mem_cons.2 ⟨ofPlain_good (by decide +kernel) rfl (fun _ => rfl) rfl (fun _ => rfl) (fun _ => rfl),
  List.forall_mem_cons.2 ⟨ofPlain_good (by decide +kernel) rfl (fun _ => rfl) rfl (fun _ => rfl) (fun _ => rfl),
  List.forall_mem_cons.2 ⟨ofPlain_good (by decide +kernel) rfl (fun _ => rfl) rfl (fun _ => rfl) (fun _ => rfl),
  List.forall_mem_cons.2 ⟨ofPlain_good (by decide +kernel) rfl (fun _ => rfl) rfl (fun _ => rfl) (fun _ => rfl),
  fun _ h => nomatch h⟩⟩⟩⟩⟩⟩⟩⟩⟩⟩⟩⟩⟩⟩⟩⟩⟩⟩⟩⟩⟩⟩⟩⟩⟩⟩⟩⟩⟩⟩⟩⟩⟩⟩⟩⟩⟩⟩⟩

theorem rowsOneE_good : ∀ m ∈ rowsOneE, Maker.Good m :=
  List.forall_mem_cons.2 ⟨ofPlain8_good (by decide +kernel) (fun _ => rfl) (fun _ _ => rfl) rfl (fun _ => rfl) (fun _ _ => rfl),
  List.forall_mem_cons.2 ⟨ofPlain8_good (by decide +kernel) (fun _ => rfl) (fun _ _ => rfl) rfl (fun _ => rfl) (fun _ _ => rfl),
  List.forall_mem_cons.2 ⟨ofPlain8_good (by decide +kernel) (fun _ => rfl) (fun _ _ => rfl) rfl (fun _ => rfl) (fun _ _ => rfl),
  List.forall_mem_cons.2 ⟨ofPlain8_good (by decide +kernel) (fun _ => rfl) (fun _ _ => rfl) rfl (fun _ => rfl) (fun _ _ => rfl),
  List.forall_mem_cons.2 ⟨ofPlain8_good (by decide +kernel) (fun _ => rfl) (fun _ _ => rfl) rfl (fun _ => rfl) (fun _ _ => rfl),
  List.forall_mem_cons.2 ⟨ofPlain8_good (by decide +kernel) (fun _ => rfl) (fun _ _ => rfl) rfl (fun _ => rfl) (fun _ _ => rfl),
  List.forall_mem_cons.2 ⟨ofPlain8_good (by decide +kernel) (fun _ => rfl) (fun _ _ => rfl) rfl (fun _ => rfl) (fun _ _ => rfl),
  List.forall_mem_cons.2 ⟨ofPlain8_good (by decide +kernel) (fun _ => rfl) (fun _ _ => rfl) rfl (fun _ => rfl) (fun _ _ => rfl),
  List.forall_mem_cons.2 ⟨ofPlainF_good (fun a => a.osz.bytes) (by decide +kernel) (fun _ => rfl) (fun _ _ => rfl) rfl (fun _ => rfl) (fun _ _ => rfl),
  List.forall_mem_cons.2 ⟨ofPlainF_good (fun a => a.osz.bytes) (by decide +kernel) (fun _ => rfl) (fun _ _ => rfl) rfl (fun _ => rfl) (fun _ _ => rfl),
  List.forall_mem_cons.2 ⟨ofPlainF16_good (fun a => a.osz.bytes) (by decide +kernel) (fun _ _ => rfl) (fun _ _ _ => rfl) rfl (fun _ => rfl) (fun _ _ _ => rfl),
  List.forall_mem_cons.2 ⟨ofPlain8_good (by decide +kernel) (fun _ => rfl) (fun _ _ => rfl) rfl (fun _ => rfl) (fun _ _ => rfl),
  List.forall_mem_cons.2 ⟨ofPlain_good (by decide +kernel) rfl (fun _ => rfl) rfl (fun _ => rfl) (fun _ => rfl),
  List.forall_mem_cons.2 ⟨ofPlain_good (by decide +kernel) rfl (fun _ => rfl) rfl (fun _ => rfl) (fun _ => rfl),
  List.forall_mem_cons.2 ⟨ofPlain_good (by decide +kernel) rfl (fun _ => rfl) rfl (fun _ => rfl) (fun _ => rfl),
  List.forall_mem_cons.2 ⟨ofPlain_good (by decide +kernel) rfl (fun _ => rfl) rfl (fun _ => rfl) (fun _ => rfl),
  fun _ h => nomatch h⟩⟩⟩⟩⟩⟩⟩⟩⟩⟩⟩⟩⟩⟩⟩⟩

theorem rowsOneF_good : ∀ m ∈ rowsOneF, Maker.Good m :=
  List.forall_mem_cons.2 ⟨ofPlain_good (by decide +kernel) rfl (fun _ => rfl) rfl (fun _ => rfl) (fun _ => rfl),
  List.forall_mem_cons.2 ⟨ofPlain_good (by decide +kernel) rfl (fun _ => rfl) rfl (fun _ => rfl) (fun _ => rfl),
  List.forall_mem_cons.2 ⟨ofRm8_good (by decide +kernel) (fun _ _ => rfl) (fun _ _ _ => rfl) rfl rfl (fun _ => rfl) (fun _ _ _ => rfl),
  List.forall_mem_cons.2 ⟨ofRm_good (by decide +kernel) (fun _ => rfl) (fun _ _ => rfl) rfl rfl (fun _ => rfl) (fun _ _ => rfl),
  List.forall_mem_cons.2 ⟨ofRm_good (by decide +kernel) (fun _ => rfl) (fun _ _ => rfl) rfl rfl (fun _ => rfl) (fun _ _ => rfl),
  List.forall_mem_cons.2 ⟨ofRm_good (by decide +kernel) (fun _ => rfl) (fun _ _ => rfl) rfl rfl (fun _ => rfl) (fun _ _ => rfl),
  List.forall_mem_cons.2 ⟨ofRm_good (by decide +kernel) (fun _ => rfl) (fun _ _ => rfl) rfl rfl (fun _ => rfl) (fun _ _ => rfl),
  List.forall_mem_cons.2 ⟨ofRm_good (by decide +kernel) (fun _ => rfl) (fun _ _ => rfl) rfl rfl (fun _ => rfl) (fun _ _ => rfl),
  List.forall_mem_cons.2 ⟨ofRm_good (by decide +kernel) (fun _ => rfl) (fun _ _ => rfl) rfl rfl (fun _ => rfl) (fun _ _ => rfl),
  List.forall_mem_cons.2 ⟨ofRmF_good (fun a => a.osz.bytes) (by decide +kernel) (fun _ _ => rfl) (fun _ _ _ => rfl) rfl rfl (fun _ => rfl) (fun _ _ _ => rfl),
  List.forall_mem_cons.2 ⟨ofRm_good (by decide +kernel) (fun _ => rfl) (fun _ _ => rfl) rfl rfl (fun _ => rfl) (fun _ _ => rfl),
  List.forall_mem_cons.2 ⟨ofRm_good (by decide +kernel) (fun _ => rfl) (fun _ _ => rfl) rfl rfl (fun _ => rfl) (fun _ _ => rfl),
  List.forall_mem_cons.2 ⟨ofRm_good (by decide +kernel) (fun _ => rfl) (fun _ _ => rfl) rfl rfl (fun _ => rfl) (fun _ _ => rfl),
  List.forall_mem_cons.2 ⟨ofRm_good (by decide +kernel) (fun _ => rfl) (fun _ _ => rfl) rfl rfl (fun _ => rfl) (fun _ _ => rfl),
  List.forall_mem_cons.2 ⟨ofRm_good (by decide +kernel) (fun _ => rfl) (fun _ _ => rfl) rfl rfl (fun _ => rfl) (fun _ _ => rfl),
  List.forall_mem_cons.2 ⟨ofRm_good (by decide +kernel) (fun _ => rfl) (fun _ _ => rfl) rfl rfl (fun _ => rfl) (fun _ _ => rfl),
  List.forall_mem_cons.2 ⟨ofPlain_good (by decide +kernel) rfl (fun _ => rfl) rfl (fun _ => rfl) (fun _ => rfl),
  List.forall_mem_cons.2 ⟨ofPlain_good (by decide +kernel) rfl (fun _ => rfl) rfl (fun _ => rfl) (fun _ => rfl),
  List.forall_mem_cons.2 ⟨ofPlain_good (by decide +kernel) rfl (fun _ => rfl) rfl (fun _ => rfl) (fun _ => rfl),
  List.forall_mem_cons.2 ⟨ofPlain_good (by decide +kernel) rfl (fun _ => rfl) rfl (fun _ => rfl) (fun _ => rfl),
  List.forall_mem_cons.2 ⟨ofPlain_good (by decide +kernel) rfl (fun _ => rfl) rfl (fun _ => rfl) (fun _ => rfl),
  List.forall_mem_cons.2 ⟨ofPlain_good (by decide +kernel) rfl (fun _ => rfl) rfl (fun _ => rfl) (fun _ => rfl),
  List.forall_mem_cons.2 ⟨ofRm_good (by decide +kernel) (fun _ => rfl) (fun _ _ => rfl) rfl rfl (fun _ => rfl) (fun _ _ => rfl),
  List.forall_mem_cons.2 ⟨ofRm_good (by decide +kernel) (fun _ => rfl) (fun _ _ => rfl) rfl rfl (fun _ => rfl) (fun _ _ => rfl),
  List.forall_mem_cons.2 ⟨ofRm_good (by decide +kernel) (fun _ => rfl) (fun _ _ => rfl) rfl rfl (fun _ => rfl) (fun _ _ => rfl),
  List.forall_mem_cons.2 ⟨ofRm_good (by decide +kernel) (fun _ => rfl) (fun _ _ => rfl) rfl rfl (fun _ => rfl) (fun _ _ => rfl),
  List.forall_mem_cons.2 ⟨ofRm_good (by decide +kernel) (fun _ => rfl) (fun _ _ => rfl) rfl rfl (fun _ => rfl) (fun _ _ => rfl),
  List.forall_mem_cons.2 ⟨ofRm_good (by decide +kernel) (fun _ => rfl) (fun _ _ => rfl) rfl rfl (fun _ => rfl) (fun _ _ => rfl),
  List.forall_mem_cons.2 ⟨ofRm_good (by decide +kernel) (fun _ => rfl) (fun _ _ => rfl) rfl rfl (fun _ => rfl) (fun _ _ => rfl),
  List.forall_mem_cons.2 ⟨ofRm_good (by decide +kernel) (fun _ => rfl) (fun _ _ => rfl) rfl rfl (fun _ => rfl) (fun _ _ => rfl),
  List.forall_mem_cons.2 ⟨ofRm_good (by decide +kernel) (fun _ => rfl) (fun _ _ => rfl) rfl rfl (fun _ => rfl) (fun _ _ => rfl),
  fun _ h => nomatch h⟩⟩⟩⟩⟩⟩⟩⟩⟩⟩⟩⟩⟩⟩⟩⟩⟩⟩⟩⟩⟩⟩⟩⟩⟩⟩⟩⟩⟩⟩⟩

theorem rowsTwo0_good : ∀ m ∈ rowsTwo0, Maker.Good m :=
  List.forall_mem_cons.2 ⟨ofRm_good (by decide +kernel) (fun _ => rfl) (fun _ _ => rfl) rfl rfl (fun _ => rfl) (fun _ _ => rfl),
  List.forall_mem_cons.2 ⟨ofRm_good (by decide +kernel) (fun _ => rfl) (fun _ _ => rfl) rfl rfl (fun _ => rfl) (fun _ _ => rfl),
  List.forall_mem_cons.2 ⟨ofRm_good (by decide +kernel) (fun _ => rfl) (fun _ _ => rfl) rfl rfl (fun _ => rfl) (fun _ _ => rfl),
  List.forall_mem_cons.2 ⟨ofRm_good (by decide +kernel) (fun _ => rfl) (fun _ _ => rfl) rfl rfl (fun _ => rfl) (fun _ _ => rfl),
  List.forall_mem_cons.2 ⟨ofRm_good (by decide +kernel) (fun _ => rfl) (fun _ _ => rfl) rfl rfl (fun _ => rfl) (fun _ _ => rfl),
  List.forall_mem_cons.2 ⟨ofRm_good (by decide +kernel) (fun _ => rfl) (fun _ _ => rfl) rfl rfl (fun _ => rfl) (fun _ _ => rfl),
  List.forall_mem_cons.2 ⟨ofRm_good (by decide +kernel) (fun _ => rfl) (fun _ _ => rfl) rfl rfl (fun _ => rfl) (fun _ _ => rfl),
  List.forall_mem_cons.2 ⟨ofRm_good (by decide +kernel) (fun _ => rfl) (fun _ _ => rfl) rfl rfl (fun _ => rfl) (fun _ _ => rfl),
  List.forall_mem_cons.2 ⟨ofRm_good (by decide +kernel) (fun _ => rfl) (fun _ _ => rfl) rfl rfl (fun _ => rfl) (fun _ _ => rfl),
  List.forall_mem_cons.2 ⟨ofRm_good (by decide +kernel) (fun _ => rfl) (fun _ _ => rfl) rfl rfl (fun _ => rfl) (fun _ _ => rfl),
  List.forall_mem_cons.2 ⟨ofRm_good (by decide +kernel) (fun _ => rfl) (fun _ _ => rfl) rfl rfl (fun _ => rfl) (fun _ _ => rfl),
  List.forall_mem_cons.2 ⟨ofRm_good (by decide +kernel) (fun _ => rfl) (fun _ _ => rfl) rfl rfl (fun _ => rfl) (fun _ _ => rfl),
  List.forall_mem_cons.2 ⟨ofReg_good (by decide +kernel) (fun _ _ => rfl) (fun _ _ _ => rfl) rfl rfl (fun _ => rfl) (fun _ _ _ => rfl),
  List.forall_mem_cons.2 ⟨ofReg_good (by decide +kernel) (fun _ _ => rfl) (fun _ _ _ => rfl) rfl rfl (fun _ => rfl) (fun _ _ _ => rfl),
  List.forall_mem_cons.2 ⟨ofPlain_good (by decide +kernel) rfl (fun _ => rfl) rfl (fun _ => rfl) (fun _ => rfl),
  fun _ h => nomatch h⟩⟩⟩⟩⟩⟩⟩⟩⟩⟩⟩⟩⟩⟩⟩

theorem rowsTwo2_good : ∀ m ∈ rowsTwo2, Maker.Good m :=
  List.forall_mem_cons.2 ⟨ofLone_good (by decide +kernel) (fun _ _ _ => rfl) (fun _ _ _ _ => rfl) rfl rfl rfl (fun _ => rfl) (fun _ _ _ _ => rfl),
  List.forall_mem_cons.2 ⟨ofLone_good (by decide +kernel) (fun _ _ _ => rfl) (fun _ _ _ _ => rfl) rfl rfl rfl (fun _ => rfl) (fun _ _ _ _ => rfl),
  List.forall_mem_cons.2 ⟨ofLone_good (by decide +kernel) (fun _ _ _ => rfl) (fun _ _ _ _ => rfl) rfl rfl rfl (fun _ => rfl) (fun _ _ _ _ => rfl),
  List.forall_mem_cons.2 ⟨ofLone_good (by decide +kernel) (fun _ _ _ => rfl) (fun _ _ _ _ => rfl) rfl rfl rfl (fun _ => rfl) (fun _ _ _ _ => rfl),
  List.forall_mem_cons.2 ⟨ofLone_good (by decide +kernel) (fun _ _ _ => rfl) (fun _ _ _ _ => rfl) rfl rfl rfl (fun _ => rfl) (fun _ _ _ _ => rfl),
  List.forall_mem_cons.2 ⟨ofLone_good (by decide +kernel) (fun _ _ _ => rfl) (fun _ _ _ _ => rfl) rfl rfl rfl (fun _ => rfl) (fun _ _ _ _ => rfl),
  fun _ h => nomatch h⟩⟩⟩⟩⟩⟩

theorem rowsTwo8_good : ∀ m ∈ rowsTwo8, Maker.Good m :=
  List.forall_mem_cons.2 ⟨ofPlainF_good (fun a => a.osz.bytes) (by decide +kernel) (fun _ => rfl) (fun _ _ => rfl) rfl (fun _ => rfl) (fun _ _ => rfl),
  List.forall_mem_cons.2 ⟨ofPlainF_good (fun a => a.osz.bytes) (by decide +kernel) (fun _ => rfl) (fun _ _ => rfl) rfl (fun _ => rfl) (fun _ _ => rfl),
  List.forall_mem_cons.2 ⟨ofPlainF_good (fun a => a.osz.bytes) (by decide +kernel) (fun _ => rfl) (fun _ _ => rfl) rfl (fun _ => rfl) (fun _ _ => rfl),
  List.forall_mem_cons.2 ⟨ofPlainF_good (fun a => a.osz.bytes) (by decide +kernel) (fun _ => rfl) (fun _ _ => rfl) rfl (fun _ => rfl) (fun _ _ => rfl),
  List.forall_mem_cons.2 ⟨ofPlainF_good (fun a => a.osz.bytes) (by decide +kernel) (fun _ => rfl) (fun _ _ => rfl) rfl (fun _ => rfl) (fun _ _ => rfl),
  List.forall_mem_cons.2 ⟨ofPlainF_good (fun a => a.osz.bytes) (by decide +kernel) (fun _ => rfl) (fun _ _ => rfl) rfl (fun _ => rfl) (fun _ _ => rfl),
  List.forall_mem_cons.2 ⟨ofPlainF_good (fun a => a.osz.bytes) (by decide +kernel) (fun _ => rfl) (fun _ _ => rfl) rfl (fun _ => rfl) (fun _ _ => rfl),
  List.forall_mem_cons.2 ⟨ofPlainF_good (fun a => a.osz.bytes) (by decide +kernel) (fun _ => rfl) (fun _ _ => rfl) rfl (fun _ => rfl) (fun _ _ => rfl),
  List.forall_mem_cons.2 ⟨ofPlainF_good (fun a => a.osz.bytes) (by decide +kernel) (fun _ => rfl) (fun _ _ => rfl) rfl (fun _ => rfl) (fun _ _ => rfl),
  List.forall_mem_cons.2 ⟨ofPlainF_good (fun a => a.osz.bytes) (by decide +kernel) (fun _ => rfl) (fun _ _ => rfl) rfl (fun _ => rfl) (fun _ _ => rfl),
  List.forall_mem_cons.2 ⟨ofPlainF_good (fun a => a.osz.bytes) (by decide +kernel) (fun _ => rfl) (fun _ _ => rfl) rfl (fun _ => rfl) (fun _ _ => rfl),
  List.forall_mem_cons.2 ⟨ofPlainF_good (fun a => a.osz.bytes) (by decide +kernel) (fun _ => rfl) (fun _ _ => rfl) rfl (fun _ => rfl) (fun _ _ => rfl),
  List.forall_mem_cons.2 ⟨ofPlainF_good (fun a => a.osz.bytes) (by decide +kernel) (fun _ => rfl) (fun _ _ => rfl) rfl (fun _ => rfl) (fun _ _ => rfl),
  List.forall_mem_cons.2 ⟨ofPlainF_good (fun a => a.osz.bytes) (by decide +kernel) (fun _ => rfl) (fun _ _ => rfl) rfl (fun _ => rfl) (fun _ _ => rfl),
  List.forall_mem_cons.2 ⟨ofPlainF_good (fun a => a.osz.bytes) (by decide +kernel) (fun _ => rfl) (fun _ _ => rfl) rfl (fun _ => rfl) (fun _ _ => rfl),
  List.forall_mem_cons.2 ⟨ofPlainF_good (fun a => a.osz.bytes) (by decide +kernel) (fun _ => rfl) (fun _ _ => rfl) rfl (fun _ => rfl) (fun _ _ => rfl),
  fun _ h => nomatch h⟩⟩⟩⟩⟩⟩⟩⟩⟩⟩⟩⟩⟩⟩⟩⟩

theorem rowsTwo9_good : ∀ m ∈ rowsTwo9, Maker.Good m :=
  List.forall_mem_cons.2 ⟨ofReg_good (by decide +kernel) (fun _ _ => rfl) (fun _ _ _ => rfl) rfl rfl (fun _ => rfl) (fun _ _ _ => rfl),
  List.forall_mem_cons.2 ⟨ofReg_good (by decide +kernel) (fun _ _ => rfl) (fun _ _ _ => rfl) rfl rfl (fun _ => rfl) (fun _ _ _ => rfl),
  List.forall_mem_cons.2 ⟨ofReg_good (by decide +kernel) (fun _ _ => rfl) (fun _ _ _ => rfl) rfl rfl (fun _ => rfl) (fun _ _ _ => rfl),
  List.forall_mem_cons.2 ⟨ofReg_good (by decide +kernel) (fun _ _ => rfl) (fun _ _ _ => rfl) rfl rfl (fun _ => rfl) (fun _ _ _ => rfl),
  List.forall_mem_cons.2 ⟨ofReg_good (by decide +kernel) (fun _ _ => rfl) (fun _ _ _ => rfl) rfl rfl (fun _ => rfl) (fun _ _ _ => rfl),
  List.forall_mem_cons.2 ⟨ofReg_good (by decide +kernel) (fun _ _ => rfl) (fun _ _ _ => rfl) rfl rfl (fun _ => rfl) (fun _ _ _ => rfl),
  List.forall_mem_cons.2 ⟨ofReg_good (by decide +kernel) (fun _ _ => rfl) (fun _ _ _ => rfl) rfl rfl (fun _ => rfl) (fun _ _ _ => rfl),
  List.forall_mem_cons.2 ⟨ofReg_good (by decide +kernel) (fun _ _ => rfl) (fun _ _ _ => rfl) rfl rfl (fun _ => rfl) (fun _ _ _ => rfl),
  List.forall_mem_cons.2 ⟨ofReg_good (by decide +kernel) (fun _ _ => rfl) (fun _ _ _ => rfl) rfl rfl (fun _ => rfl) (fun _ _ _ => rfl),
  List.forall_mem_cons.2 ⟨ofReg_good (by decide +kernel) (fun _ _ => rfl) (fun _ _ _ => rfl) rfl rfl (fun _ => rfl) (fun _ _ _ => rfl),
  List.forall_mem_cons.2 ⟨ofReg_good (by decide +kernel) (fun _ _ => rfl) (fun _ _ _ => rfl) rfl rfl (fun _ => rfl) (fun _ _ _ => rfl),
  List.forall_mem_cons.2 ⟨ofReg_good (by decide +kernel) (fun _ _ => rfl) (fun _ _ _ => rfl) rfl rfl (fun _ => rfl) (fun _ _ _ => rfl),
  List.forall_mem_cons.2 ⟨ofReg_good (by decide +kernel) (fun _ _ => rfl) (fun _ _ _ => rfl) rfl rfl (fun _ => rfl) (fun _ _ _ => rfl),
  List.forall_mem_cons.2 ⟨ofReg_good (by decide +kernel) (fun _ _ => rfl) (fun _ _ _ => rfl) rfl rfl (fun _ => rfl) (fun _ _ _ => rfl),
  List.forall_mem_cons.2 ⟨ofReg_good (by decide +kernel) (fun _ _ => rfl) (fun _ _ _ => rfl) rfl rfl (fun _ => rfl) (fun _ _ _ => rfl),
  List.forall_mem_cons.2 ⟨ofReg_good (by decide +kernel) (fun _ _ => rfl) (fun _ _ _ => rfl) rfl rfl (fun _ => rfl) (fun _ _ _ => rfl),
  fun _ h => nomatch h⟩⟩⟩⟩⟩⟩⟩⟩⟩⟩⟩⟩⟩⟩⟩⟩

theorem rowsTwoA_good : ∀ m ∈ rowsTwoA, Maker.Good m :=
  List.forall_mem_cons.2 ⟨ofPlain_good (by decide +kernel) rfl (fun _ => rfl) rfl (fun _ => rfl) (fun _ => rfl),
  List.forall_mem_cons.2 ⟨ofPlain_good (by decide +kernel) rfl (fun _ => rfl) rfl (fun _ => rfl) (fun _ => rfl),
  List.forall_mem_cons.2 ⟨ofReg_good (by decide +kernel) (fun _ _ => rfl) (fun _ _ _ => rfl) rfl rfl (fun _ => rfl) (fun _ _ _ => rfl),
  List.forall_mem_cons.2 ⟨ofReg8_good (by decide +kernel) (fun _ _ _ => rfl) (fun _ _ _ _ => rfl) rfl rfl (fun _ => rfl) (fun _ _ _ _ => rfl),
  List.forall_mem_cons.2 ⟨ofReg_good (by decide +kernel) (fun _ _ => rfl) (fun _ _ _ => rfl) rfl rfl (fun _ => rfl) (fun _ _ _ => rfl),
  List.forall_mem_cons.2 ⟨ofPlain_good (by decide +kernel) rfl (fun _ => rfl) rfl (fun _ => rfl) (fun _ => rfl),
  List.forall_mem_cons.2 ⟨ofPlain_good (by decide +kernel) rfl (fun _ => rfl) rfl (fun _ => rfl) (fun _ => rfl),
  List.forall_mem_cons.2 ⟨ofReg_good (by decide +kernel) (fun _ _ => rfl) (fun _ _ _ => rfl) rfl rfl (fun _ => rfl) (fun _ _ _ => rfl),
  List.forall_mem_cons.2 ⟨ofReg8_good (by decide +kernel) (fun _ _ _ => rfl) (fun _ _ _ _ => rfl) rfl rfl (fun _ => rfl) (fun _ _ _ _ => rfl),
  List.forall_mem_cons.2 ⟨ofReg_good (by decide +kernel) (fun _ _ => rfl) (fun _ _ _ => rfl) rfl rfl (fun _ => rfl) (fun _ _ _ => rfl),
  List.forall_mem_cons.2 ⟨ofReg_good (by decide +kernel) (fun _ _ => rfl) (fun _ _ _ => rfl) rfl rfl (fun _ => rfl) (fun _ _ _ => rfl),
  fun _ h => nomatch h⟩⟩⟩⟩⟩⟩⟩⟩⟩⟩⟩

theorem rowsTwoB_good : ∀ m ∈ rowsTwoB, Maker.Good m :=
  List.forall_mem_cons.2 ⟨ofReg_good (by decide +kernel) (fun _ _ => rfl) (fun _ _ _ => rfl) rfl rfl (fun _ => rfl) (fun _ _ _ => rfl),
  List.forall_mem_cons.2 ⟨ofReg_good (by decide +kernel) (fun _ _ => rfl) (fun _ _ _ => rfl) rfl rfl (fun _ => rfl) (fun _ _ _ => rfl),
  List.forall_mem_cons.2 ⟨ofReg_good (by decide +kernel) (fun _ _ => rfl) (fun _ _ _ => rfl) rfl rfl (fun _ => rfl) (fun _ _ _ => rfl),
  List.forall_mem_cons.2 ⟨ofReg_good (by decide +kernel) (fun _ _ => rfl) (fun _ _ _ => rfl) rfl rfl (fun _ => rfl) (fun _ _ _ => rfl),
  List.forall_mem_cons.2 ⟨ofReg_good (by decide +kernel) (fun _ _ => rfl) (fun _ _ _ => rfl) rfl rfl (fun _ => rfl) (fun _ _ _ => rfl),
  List.forall_mem_cons.2 ⟨ofReg_good (by decide +kernel) (fun _ _ => rfl) (fun _ _ _ => rfl) rfl rfl (fun _ => rfl) (fun _ _ _ => rfl),
  List.forall_mem_cons.2 ⟨ofRm8_good (by decide +kernel) (fun _ _ => rfl) (fun _ _ _ => rfl) rfl rfl (fun _ => rfl) (fun _ _ _ => rfl),
  List.forall_mem_cons.2 ⟨ofRm8_good (by decide +kernel) (fun _ _ => rfl) (fun _ _ _ => rfl) rfl rfl (fun _ => rfl) (fun _ _ _ => rfl),
  List.forall_mem_cons.2 ⟨ofRm8_good (by decide +kernel) (fun _ _ => rfl) (fun _ _ _ => rfl) rfl rfl (fun _ => rfl) (fun _ _ _ => rfl),
  List.forall_mem_cons.2 ⟨ofRm8_good (by decide +kernel) (fun _ _ => rfl) (fun _ _ _ => rfl) rfl rfl (fun _ => rfl) (fun _ _ _ => rfl),
  List.forall_mem_cons.2 ⟨ofReg_good (by decide +kernel) (fun _ _ => rfl) (fun _ _ _ => rfl) rfl rfl (fun _ => rfl) (fun _ _ _ => rfl),
  List.forall_mem_cons.2 ⟨ofReg_good (by decide +kernel) (fun _ _ => rfl) (fun _ _ _ => rfl) rfl rfl (fun _ => rfl) (fun _ _ _ => rfl),
  List.forall_mem_cons.2 ⟨ofReg_good (by decide +kernel) (fun _ _ => rfl) (fun _ _ _ => rfl) rfl rfl (fun _ => rfl) (fun _ _ _ => rfl),
  List.forall_mem_cons.2 ⟨ofReg_good (by decide +kernel) (fun _ _ => rfl) (fun _ _ _ => rfl) rfl rfl (fun _ => rfl) (fun _ _ _ => rfl),
  List.forall_mem_cons.2 ⟨ofReg_good (by decide +kernel) (fun _ _ => rfl) (fun _ _ _ => rfl) rfl rfl (fun _ => rfl) (fun _ _ _ => rfl),
  fun _ h => nomatch h⟩⟩⟩⟩⟩⟩⟩⟩⟩⟩⟩⟩⟩⟩⟩

theorem rowsOne_good : ∀ m ∈ rowsOne, Maker.Good m := by
  intro m h
  simp only [rowsOne, List.mem_append] at h
  rcases h with h | h | h | h | h | h | h | h | h | h | h | h | h | h | h | h
  · exact rowsOne0_good m h
  · exact rowsOne1_good m h
  · exact rowsOne2_good m h
  · exact rowsOne3_good m h
  · exact rowsOne4_good m h
  · exact rowsOne5_good m h
  · exact rowsOne6_good m h
  · exact rowsOne7_good m h
  · exact rowsOne8_good m h
  · exact rowsOne9_good m h
  · exact rowsOneA_good m h
  · exact rowsOneB_good m h
  · exact rowsOneC_good m h
  · exact rowsOneD_good m h
  · exact rowsOneE_good m h
  · exact rowsOneF_good m h

theorem rowsTwo_good : ∀ m ∈ rowsTwo, Maker.Good m := by
  intro m h
  simp only [rowsTwo, List.mem_append] at h
  rcases h with h | h | h | h | h | h
  · exact rowsTwo0_good m h
  · exact rowsTwo2_good m h
  · exact rowsTwo8_good m h
  · exact rowsTwo9_good m h
  · exact rowsTwoA_good m h
  · exact rowsTwoB_good m h

/-! ## Key and slot name one maker -/

/-- The makers of a key's map. -/
noncomputable def rowsOf : Key → List Maker
  | .one _ => rowsOne
  | .two _ => rowsTwo

theorem rowsOf_good (k : Key) : ∀ m ∈ rowsOf k, Maker.Good m := by
  cases k with
  | one _ => exact rowsOne_good
  | two _ => exact rowsTwo_good

/-- A number for a key and a slot, rising along the rows. -/
def Maker.code (m : Maker) : Nat :=
  m.1.last.toNat * 8 + match m.2.1 with | some r => r.toNat | none => 0

theorem rowsOne_rising : (rowsOne.map Maker.code).IsChain (· < ·) := by decide +kernel
theorem rowsTwo_rising : (rowsTwo.map Maker.code).IsChain (· < ·) := by decide +kernel

theorem find_of_rising {l : List Maker} (hl : (l.map Maker.code).IsChain (· < ·)) {p : Maker → Bool} {m : Maker}
    (hm : m ∈ l) (hp : p m = true) (hu : ∀ x, p x = true → x.code = m.code) : l.find? p = some m := by
  have hpw : l.Pairwise fun x y => x.code < y.code := List.pairwise_map.1 (List.isChain_iff_pairwise.1 hl)
  induction l with
  | nil => cases hm
  | cons x xs ih =>
    rw [List.pairwise_cons] at hpw
    rcases List.mem_cons.1 hm with rfl | hm'
    · simp [hp]
    · have hx : p x = false := by
        by_contra h
        have := hu x (by simpa using h)
        have := hpw.1 m hm'
        omega
      simp only [List.find?_cons, hx]
      exact ih (List.isChain_iff_pairwise.2 (List.pairwise_map.2 hpw.2)) hm' hpw.2

/-- A maker of the rows is the one its key and slot find. -/
theorem ofFields_of_mem {m : Maker} (hm : m ∈ rowsOf m.1) {f : Fields} {i : Instr} (hf : m.2.2 f = some i) :
    Instr.ofFields m.1 m.2.1 f = some i := by
  have hl : ((rowsOf m.1).map Maker.code).IsChain (· < ·) := by
    cases m.1 with
    | one _ => exact rowsOne_rising
    | two _ => exact rowsTwo_rising
  have : (rowsOf m.1).find? (fun x : Maker => decide (x.1 = m.1) && decide (x.2.1 = m.2.1)) = some m := by
    apply find_of_rising hl hm (by simp)
    intro x hx
    simp only [Bool.and_eq_true, decide_eq_true_eq] at hx
    simp [Maker.code, hx.1, hx.2]
  unfold Instr.ofFields
  change (match (rowsOf m.1).find? _ with | some m => m.2.2 f | none => none) = _
  rw [this]
  exact hf

/-! ## Every slot of the default table has a maker -/

/-- The key and slot of every descriptor of an entry. -/
def slotsOf (e : Key × Entry) : List (Key × Option (BitVec 3)) :=
  match e.2 with
  | .desc _ => [(e.1, none)]
  | .group slots => (List.finRange 8).filterMap fun n =>
      match (slots[n.val]?).join with
      | some _ => some (e.1, some (BitVec.ofFin n))
      | none => none

theorem rowsOne_slots : tableOne.flatMap slotsOf = rowsOne.map fun m => (m.1, m.2.1) := by decide +kernel
theorem rowsTwo_slots : tableTwo.flatMap slotsOf = rowsTwo.map fun m => (m.1, m.2.1) := by decide +kernel

theorem tableOne_keys : ∀ e ∈ tableOne, e.1.opMap = .oneByte := by decide +kernel
theorem tableTwo_keys : ∀ e ∈ tableTwo, e.1.opMap = .twoByte := by decide +kernel

theorem OpcodeTable.mem_of_find {t : OpcodeTable} {k : Key} {e : Entry} (h : t.find k = some e) : (k, e) ∈ t := by
  unfold OpcodeTable.find at h
  induction t with
  | nil => cases h
  | cons x xs ih =>
    obtain ⟨k', e'⟩ := x
    simp only [List.lookup] at h
    split at h
    · rename_i hk
      cases h
      rw [beq_iff_eq.1 hk]
      exact List.mem_cons_self
    · exact List.mem_cons_of_mem _ (ih h)

theorem mem_slotsOf {t : OpcodeTable} {k : Key} {slot : Option (BitVec 3)} {d : OpcodeDescriptor}
    (h : t.descriptor? k slot = some d) : ∃ e, (k, e) ∈ t ∧ (k, slot) ∈ slotsOf (k, e) := by
  unfold OpcodeTable.descriptor? at h
  split at h
  · rename_i d' hf
    exact ⟨_, OpcodeTable.mem_of_find hf, by simp [slotsOf]⟩
  · rename_i slots r hf
    refine ⟨_, OpcodeTable.mem_of_find hf, ?_⟩
    simp only [slotsOf, List.mem_filterMap]
    refine ⟨r.toFin, List.mem_finRange _, ?_⟩
    change (match (slots[r.toNat]?).join with
      | some _ => some (k, some (BitVec.ofFin r.toFin)) | none => none) = _
    rw [h]
  · cases h

/-- Where the default table has a descriptor, there is a maker, and it is found. -/
theorem maker_of_descriptor {k : Key} {slot : Option (BitVec 3)} {d : OpcodeDescriptor}
    (h : defaultTable.descriptor? k slot = some d) :
    ∃ m : Maker, m ∈ rowsOf k ∧ m.1 = k ∧ m.2.1 = slot ∧ Maker.Builds m d := by
  obtain ⟨e, he, hs⟩ := mem_slotsOf h
  have hmem : (k, slot) ∈ (rowsOf k).map fun m : Maker => (m.1, m.2.1) := by
    rcases List.mem_append.1 he with he | he
    · have := tableOne_keys _ he
      cases k with
      | one b => change _ ∈ rowsOne.map _; rw [← rowsOne_slots]; exact List.mem_flatMap.2 ⟨_, he, hs⟩
      | two b => cases this
    · have := tableTwo_keys _ he
      cases k with
      | one b => cases this
      | two b => change _ ∈ rowsTwo.map _; rw [← rowsTwo_slots]; exact List.mem_flatMap.2 ⟨_, he, hs⟩
  obtain ⟨m, hm, he⟩ := List.mem_map.1 hmem
  cases he
  obtain ⟨d', hb⟩ := rowsOf_good _ m hm
  have := hb.row
  rw [h] at this
  cases this
  exact ⟨m, hm, rfl, rfl, hb⟩

/-! ## What the decoder names -/

/-- The row the decoder names has the key, the slot and the fields it was read from, and its meaning is
that row served. -/
theorem nameRow_row {k : Key} {slot : Option (BitVec 3)} {d : OpcodeDescriptor} {f : Fields} {i : Instr}
    (h : nameRow k slot d f = .row i) (hs : SlotMatches slot f) :
    i.parts = ⟨k, slot, f⟩ ∧ defaultTable.descriptor? k slot = some d ∧ ∀ s, exec i s = serveRow k d f s := by
  unfold nameRow at h
  split at h
  · rename_i hd
    split at h
    · rename_i hi
      cases h
      obtain ⟨m, hm, rfl, rfl, hb⟩ := maker_of_descriptor hd
      unfold Instr.ofFields at hi
      split at hi
      · rename_i m' hm'
        have hp := List.find?_some hm'
        have hmem : m' ∈ rowsOf m.1 := List.mem_of_find?_eq_some hm'
        simp only [Bool.and_eq_true, decide_eq_true_eq] at hp
        obtain ⟨d', hb'⟩ := rowsOf_good _ m' hmem
        have hd' := hb'.row
        rw [hp.1, hp.2, hd] at hd'
        cases hd'
        obtain ⟨h1, h2⟩ := hb'.parts f _ hi (hp.2 ▸ hs)
        rw [hp.1, hp.2] at h1
        rw [hp.1] at h2
        exact ⟨h1, hd, h2⟩
      · cases hi
    · cases h
  · cases h

/-- Fields of the shape of a row of the default table are named, as a well-formed instruction. -/
theorem nameRow_fits {a : Attrs} {k : Key} {slot : Option (BitVec 3)} {d : OpcodeDescriptor} {f : Fields}
    (hd : defaultTable.descriptor? k slot = some d) (hs : SlotMatches slot f) (hf : FieldsFit a slot.isSome d f) :
    ∃ i, nameRow k slot d f = .row i ∧ i.wellFormed a = true := by
  obtain ⟨m, hm, rfl, rfl, hb⟩ := maker_of_descriptor hd
  obtain ⟨i, hi, hw⟩ := (hb.fits a f hs).1 hf
  refine ⟨i, ?_, hw⟩
  unfold nameRow
  rw [if_pos hd, ofFields_of_mem hm hi]

/-- A row the decoder does not name is served as the configured row it is. -/
theorem nameRow_configured {k k' : Key} {slot : Option (BitVec 3)} {d d' : OpcodeDescriptor} {f f' : Fields}
    (h : nameRow k slot d f = .configured k' d' f') : k' = k ∧ d' = d ∧ f' = f := by
  unfold nameRow at h
  split at h
  · split at h <;> cases h; exact ⟨rfl, rfl, rfl⟩
  · cases h; exact ⟨rfl, rfl, rfl⟩

end Sys2Proof
end

