-- ==== Sys2Proof/Laws/PerInstr.lean ====
section
/-!
SUPPORT. Per instruction: the family `Named`, what decoding needs to know of one constructor.
-/

namespace Sys2Proof

-- many kernel evaluations at once would each hold a thread's stack: one after another
set_option Elab.async false

/-- A byte the scanner takes: a prefix or the escape. -/
def NamedScanner (i : Instr) : Prop :=
  ∃ b, i.parts = ⟨.one b, none, .plain []⟩ ∧ scannerRow? b = some i

/-- An unassigned opcode: where it is well-formed, the default table has no entry at its key. -/
def NamedUnassigned (i : Instr) : Prop :=
  ∃ k, i.parts = ⟨k, none, .plain []⟩ ∧ ∀ a, i.wellFormed a = true →
    unassignedRow? k = some i ∧ defaultTable.find k = none

/-- An opcode row: its key, slot and fields name it, and it is well-formed exactly when the fields have the
shape of its descriptor. -/
def NamedRow (i : Instr) : Prop :=
  ∃ d, defaultTable.descriptor? i.parts.key i.parts.slot = some d ∧
    SlotMatches i.parts.slot i.parts.fields ∧
    Instr.ofFields i.parts.key i.parts.slot i.parts.fields = some i ∧
    ∀ a, FieldsFit a i.parts.slot.isSome d i.parts.fields ↔ i.wellFormed a = true

theorem namedRow_of_maker {m : Maker} (hm : m ∈ rowsOf m.1) {f : Fields} {i : Instr} (hf : m.2.2 f = some i)
    (hs : SlotMatches m.2.1 f) : NamedRow i := by
  obtain ⟨d, hb⟩ := rowsOf_good _ m hm
  have hp := (hb.parts f i hf hs).1
  refine ⟨d, ?_, ?_, ?_, fun a => ?_⟩
  · rw [hp]; exact hb.row
  · rw [hp]; exact hs
  · rw [hp]; exact ofFields_of_mem hm hf
  · rw [hp]
    refine (hb.fits a f hs).trans ⟨fun ⟨i', h1, h2⟩ => ?_, fun h => ⟨i, hf, h⟩⟩
    rw [hf] at h1
    cases h1
    exact h2

theorem slotMatches_none (f : Fields) : SlotMatches none f := fun _ h => nomatch h

theorem slotMatches_block (r : BitVec 3) (e : Rm) (ts : List Field) : SlotMatches (some r) (.block r e ts) :=
  fun _ h => by cases h; exact ⟨_, rfl, rfl⟩

/-- A statement for every register number, one by one. -/
theorem forall_bitVec3 {P : BitVec 3 → Prop} (h0 : P 0#3) (h1 : P 1#3) (h2 : P 2#3) (h3 : P 3#3) (h4 : P 4#3)
    (h5 : P 5#3) (h6 : P 6#3) (h7 : P 7#3) : ∀ r, P r := by
  have hr : ∀ r : BitVec 3, r = 0#3 ∨ r = 1#3 ∨ r = 2#3 ∨ r = 3#3 ∨ r = 4#3 ∨ r = 5#3 ∨ r = 6#3 ∨ r = 7#3 := by
    decide
  intro r
  rcases hr r with rfl | rfl | rfl | rfl | rfl | rfl | rfl | rfl <;> assumption

/-! ## Each block of rows is part of its map's rows -/

theorem rowsOne0_sub {m : Maker} (h : m ∈ rowsOne0) : m ∈ rowsOne := by
  simp only [rowsOne, List.mem_append, h, true_or]
theorem rowsOne1_sub {m : Maker} (h : m ∈ rowsOne1) : m ∈ rowsOne := by
  simp only [rowsOne, List.mem_append, h, or_true, true_or]
theorem rowsOne2_sub {m : Maker} (h : m ∈ rowsOne2) : m ∈ rowsOne := by
  simp only [rowsOne, List.mem_append, h, or_true, true_or]
theorem rowsOne3_sub {m : Maker} (h : m ∈ rowsOne3) : m ∈ rowsOne := by
  simp only [rowsOne, List.mem_append, h, or_true, true_or]
theorem rowsOne4_sub {m : Maker} (h : m ∈ rowsOne4) : m ∈ rowsOne := by
  simp only [rowsOne, List.mem_append, h, or_true, true_or]
theorem rowsOne5_sub {m : Maker} (h : m ∈ rowsOne5) : m ∈ rowsOne := by
  simp only [rowsOne, List.mem_append, h, or_true, true_or]
theorem rowsOne6_sub {m : Maker} (h : m ∈ rowsOne6) : m ∈ rowsOne := by
  simp only [rowsOne, List.mem_append, h, or_true, true_or]
theorem rowsOne7_sub {m : Maker} (h : m ∈ rowsOne7) : m ∈ rowsOne := by
  simp only [rowsOne, List.mem_append, h, or_true, true_or]
theorem rowsOne8_sub {m : Maker} (h : m ∈ rowsOne8) : m ∈ rowsOne := by
  simp only [rowsOne, List.mem_append, h, or_true, true_or]
theorem rowsOne9_sub {m : Maker} (h : m ∈ rowsOne9) : m ∈ rowsOne := by
  simp only [rowsOne, List.mem_append, h, or_true, true_or]
theorem rowsOneA_sub {m : Maker} (h : m ∈ rowsOneA) : m ∈ rowsOne := by
  simp only [rowsOne, List.mem_append, h, or_true, true_or]
theorem rowsOneB_sub {m : Maker} (h : m ∈ rowsOneB) : m ∈ rowsOne := by
  simp only [rowsOne, List.mem_append, h, or_true, true_or]
theorem rowsOneC_sub {m : Maker} (h : m ∈ rowsOneC) : m ∈ rowsOne := by
  simp only [rowsOne, List.mem_append, h, or_true, true_or]
theorem rowsOneD_sub {m : Maker} (h : m ∈ rowsOneD) : m ∈ rowsOne := by
  simp only [rowsOne, List.mem_append, h, or_true, true_or]
theorem rowsOneE_sub {m : Maker} (h : m ∈ rowsOneE) : m ∈ rowsOne := by
  simp only [rowsOne, List.mem_append, h, or_true, true_or]
theorem rowsOneF_sub {m : Maker} (h : m ∈ rowsOneF) : m ∈ rowsOne := by
  simp only [rowsOne, List.mem_append, h, or_true]
theorem rowsTwo0_sub {m : Maker} (h : m ∈ rowsTwo0) : m ∈ rowsTwo := by
  simp only [rowsTwo, List.mem_append, h, true_or]
theorem rowsTwo2_sub {m : Maker} (h : m ∈ rowsTwo2) : m ∈ rowsTwo := by
  simp only [rowsTwo, List.mem_append, h, or_true, true_or]
theorem rowsTwo8_sub {m : Maker} (h : m ∈ rowsTwo8) : m ∈ rowsTwo := by
  simp only [rowsTwo, List.mem_append, h, or_true, true_or]
theorem rowsTwo9_sub {m : Maker} (h : m ∈ rowsTwo9) : m ∈ rowsTwo := by
  simp only [rowsTwo, List.mem_append, h, or_true, true_or]
theorem rowsTwoA_sub {m : Maker} (h : m ∈ rowsTwoA) : m ∈ rowsTwo := by
  simp only [rowsTwo, List.mem_append, h, or_true, true_or]
theorem rowsTwoB_sub {m : Maker} (h : m ∈ rowsTwoB) : m ∈ rowsTwo := by
  simp only [rowsTwo, List.mem_append, h, or_true]

/-! ## The family -/

/-- What decoding needs to know of one constructor. -/
def Laws.Named.Statement (i : Instr) : Prop := NamedScanner i ∨ NamedUnassigned i ∨ NamedRow i

/-- The two-byte map has no entry at the bytes R670 lists. -/
theorem find_unassignedTwo {b : Byte} (h : isUnassignedTwo b = true) : defaultTable.find (.two b) = none := by
  cases hf : defaultTable.find (.two b) with
  | none => rfl
  | some e =>
    have hm := OpcodeTable.mem_of_find hf
    have ht : ∀ e ∈ defaultTable, e.1.opMap = .twoByte → isUnassignedTwo e.1.last = false := by decide +kernel
    have := ht _ hm rfl
    rw [show (Key.two b).last = b from rfl, h] at this
    cases this

namespace Laws.Named

theorem prefixES : Statement (.prefixES) := .inl ⟨_, rfl, by decide⟩
theorem prefixCS : Statement (.prefixCS) := .inl ⟨_, rfl, by decide⟩
theorem prefixSS : Statement (.prefixSS) := .inl ⟨_, rfl, by decide⟩
theorem prefixDS : Statement (.prefixDS) := .inl ⟨_, rfl, by decide⟩
theorem prefixFS : Statement (.prefixFS) := .inl ⟨_, rfl, by decide⟩
theorem prefixGS : Statement (.prefixGS) := .inl ⟨_, rfl, by decide⟩
theorem prefixOPSIZE : Statement (.prefixOPSIZE) := .inl ⟨_, rfl, by decide⟩
theorem prefixADDRSIZE : Statement (.prefixADDRSIZE) := .inl ⟨_, rfl, by decide⟩
theorem prefixLOCK : Statement (.prefixLOCK) := .inl ⟨_, rfl, by decide⟩
theorem prefixREPNE : Statement (.prefixREPNE) := .inl ⟨_, rfl, by decide⟩
theorem prefixREP : Statement (.prefixREP) := .inl ⟨_, rfl, by decide⟩
theorem escape0F : Statement (.escape0F) := .inl ⟨_, rfl, by decide⟩
theorem add_00 (reg : BitVec 3) (e : Rm) : Statement (.add_00 reg e) :=
  .inr (.inr (namedRow_of_maker (rowsOne0_sub (List.mem_of_getElem? (i := 0) rfl))
    (f := .block reg e []) rfl (slotMatches_none _)))
theorem add_01 (reg : BitVec 3) (e : Rm) : Statement (.add_01 reg e) :=
  .inr (.inr (namedRow_of_maker (rowsOne0_sub (List.mem_of_getElem? (i := 1) rfl))
    (f := .block reg e []) rfl (slotMatches_none _)))
theorem add_02 (reg : BitVec 3) (e : Rm) : Statement (.add_02 reg e) :=
  .inr (.inr (namedRow_of_maker (rowsOne0_sub (List.mem_of_getElem? (i := 2) rfl))
    (f := .block reg e []) rfl (slotMatches_none _)))
theorem add_03 (reg : BitVec 3) (e : Rm) : Statement (.add_03 reg e) :=
  .inr (.inr (namedRow_of_maker (rowsOne0_sub (List.mem_of_getElem? (i := 3) rfl))
    (f := .block reg e []) rfl (slotMatches_none _)))
theorem add_04 (imm : BitVec 8) : Statement (.add_04 imm) :=
  .inr (.inr (namedRow_of_maker (rowsOne0_sub (List.mem_of_getElem? (i := 4) rfl))
    (f := .plain [.f8 imm]) rfl (slotMatches_none _)))
theorem add_05 (imm : Field) : Statement (.add_05 imm) :=
  .inr (.inr (namedRow_of_maker (rowsOne0_sub (List.mem_of_getElem? (i := 5) rfl))
    (f := .plain [imm]) rfl (slotMatches_none _)))
theorem push_06 : Statement (.push_06) :=
  .inr (.inr (namedRow_of_maker (rowsOne0_sub (List.mem_of_getElem? (i := 6) rfl))
    (f := .plain []) rfl (slotMatches_none _)))
theorem pop_07 : Statement (.pop_07) :=
  .inr (.inr (namedRow_of_maker (rowsOne0_sub (List.mem_of_getElem? (i := 7) rfl))
    (f := .plain []) rfl (slotMatches_none _)))
theorem or_08 (reg : BitVec 3) (e : Rm) : Statement (.or_08 reg e) :=
  .inr (.inr (namedRow_of_maker (rowsOne0_sub (List.mem_of_getElem? (i := 8) rfl))
    (f := .block reg e []) rfl (slotMatches_none _)))
theorem or_09 (reg : BitVec 3) (e : Rm) : Statement (.or_09 reg e) :=
  .inr (.inr (namedRow_of_maker (rowsOne0_sub (List.mem_of_getElem? (i := 9) rfl))
    (f := .block reg e []) rfl (slotMatches_none _)))
theorem or_0A (reg : BitVec 3) (e : Rm) : Statement (.or_0A reg e) :=
  .inr (.inr (namedRow_of_maker (rowsOne0_sub (List.mem_of_getElem? (i := 10) rfl))
    (f := .block reg e []) rfl (slotMatches_none _)))
theorem or_0B (reg : BitVec 3) (e : Rm) : Statement (.or_0B reg e) :=
  .inr (.inr (namedRow_of_maker (rowsOne0_sub (List.mem_of_getElem? (i := 11) rfl))
    (f := .block reg e []) rfl (slotMatches_none _)))
theorem or_0C (imm : BitVec 8) : Statement (.or_0C imm) :=
  .inr (.inr (namedRow_of_maker (rowsOne0_sub (List.mem_of_getElem? (i := 12) rfl))
    (f := .plain [.f8 imm]) rfl (slotMatches_none _)))
theorem or_0D (imm : Field) : Statement (.or_0D imm) :=
  .inr (.inr (namedRow_of_maker (rowsOne0_sub (List.mem_of_getElem? (i := 13) rfl))
    (f := .plain [imm]) rfl (slotMatches_none _)))
theorem push_0E : Statement (.push_0E) :=
  .inr (.inr (namedRow_of_maker (rowsOne0_sub (List.mem_of_getElem? (i := 14) rfl))
    (f := .plain []) rfl (slotMatches_none _)))
theorem adc_10 (reg : BitVec 3) (e : Rm) : Statement (.adc_10 reg e) :=
  .inr (.inr (namedRow_of_maker (rowsOne1_sub (List.mem_of_getElem? (i := 0) rfl))
    (f := .block reg e []) rfl (slotMatches_none _)))
theorem adc_11 (reg : BitVec 3) (e : Rm) : Statement (.adc_11 reg e) :=
  .inr (.inr (namedRow_of_maker (rowsOne1_sub (List.mem_of_getElem? (i := 1) rfl))
    (f := .block reg e []) rfl (slotMatches_none _)))
theorem adc_12 (reg : BitVec 3) (e : Rm) : Statement (.adc_12 reg e) :=
  .inr (.inr (namedRow_of_maker (rowsOne1_sub (List.mem_of_getElem? (i := 2) rfl))
    (f := .block reg e []) rfl (slotMatches_none _)))
theorem adc_13 (reg : BitVec 3) (e : Rm) : Statement (.adc_13 reg e) :=
  .inr (.inr (namedRow_of_maker (rowsOne1_sub (List.mem_of_getElem? (i := 3) rfl))
    (f := .block reg e []) rfl (slotMatches_none _)))
theorem adc_14 (imm : BitVec 8) : Statement (.adc_14 imm) :=
  .inr (.inr (namedRow_of_maker (rowsOne1_sub (List.mem_of_getElem? (i := 4) rfl))
    (f := .plain [.f8 imm]) rfl (slotMatches_none _)))
theorem adc_15 (imm : Field) : Statement (.adc_15 imm) :=
  .inr (.inr (namedRow_of_maker (rowsOne1_sub (List.mem_of_getElem? (i := 5) rfl))
    (f := .plain [imm]) rfl (slotMatches_none _)))
theorem push_16 : Statement (.push_16) :=
  .inr (.inr (namedRow_of_maker (rowsOne1_sub (List.mem_of_getElem? (i := 6) rfl))
    (f := .plain []) rfl (slotMatches_none _)))
theorem pop_17 : Statement (.pop_17) :=
  .inr (.inr (namedRow_of_maker (rowsOne1_sub (List.mem_of_getElem? (i := 7) rfl))
    (f := .plain []) rfl (slotMatches_none _)))
theorem sbb_18 (reg : BitVec 3) (e : Rm) : Statement (.sbb_18 reg e) :=
  .inr (.inr (namedRow_of_maker (rowsOne1_sub (List.mem_of_getElem? (i := 8) rfl))
    (f := .block reg e []) rfl (slotMatches_none _)))
theorem sbb_19 (reg : BitVec 3) (e : Rm) : Statement (.sbb_19 reg e) :=
  .inr (.inr (namedRow_of_maker (rowsOne1_sub (List.mem_of_getElem? (i := 9) rfl))
    (f := .block reg e []) rfl (slotMatches_none _)))
theorem sbb_1A (reg : BitVec 3) (e : Rm) : Statement (.sbb_1A reg e) :=
  .inr (.inr (namedRow_of_maker (rowsOne1_sub (List.mem_of_getElem? (i := 10) rfl))
    (f := .block reg e []) rfl (slotMatches_none _)))
theorem sbb_1B (reg : BitVec 3) (e : Rm) : Statement (.sbb_1B reg e) :=
  .inr (.inr (namedRow_of_maker (rowsOne1_sub (List.mem_of_getElem? (i := 11) rfl))
    (f := .block reg e []) rfl (slotMatches_none _)))
theorem sbb_1C (imm : BitVec 8) : Statement (.sbb_1C imm) :=
  .inr (.inr (namedRow_of_maker (rowsOne1_sub (List.mem_of_getElem? (i := 12) rfl))
    (f := .plain [.f8 imm]) rfl (slotMatches_none _)))
theorem sbb_1D (imm : Field) : Statement (.sbb_1D imm) :=
  .inr (.inr (namedRow_of_maker (rowsOne1_sub (List.mem_of_getElem? (i := 13) rfl))
    (f := .plain [imm]) rfl (slotMatches_none _)))
theorem push_1E : Statement (.push_1E) :=
  .inr (.inr (namedRow_of_maker (rowsOne1_sub (List.mem_of_getElem? (i := 14) rfl))
    (f := .plain []) rfl (slotMatches_none _)))
theorem pop_1F : Statement (.pop_1F) :=
  .inr (.inr (namedRow_of_maker (rowsOne1_sub (List.mem_of_getElem? (i := 15) rfl))
    (f := .plain []) rfl (slotMatches_none _)))
theorem and_20 (reg : BitVec 3) (e : Rm) : Statement (.and_20 reg e) :=
  .inr (.inr (namedRow_of_maker (rowsOne2_sub (List.mem_of_getElem? (i := 0) rfl))
    (f := .block reg e []) rfl (slotMatches_none _)))
theorem and_21 (reg : BitVec 3) (e : Rm) : Statement (.and_21 reg e) :=
  .inr (.inr (namedRow_of_maker (rowsOne2_sub (List.mem_of_getElem? (i := 1) rfl))
    (f := .block reg e []) rfl (slotMatches_none _)))
theorem and_22 (reg : BitVec 3) (e : Rm) : Statement (.and_22 reg e) :=
  .inr (.inr (namedRow_of_maker (rowsOne2_sub (List.mem_of_getElem? (i := 2) rfl))
    (f := .block reg e []) rfl (slotMatches_none _)))
theorem and_23 (reg : BitVec 3) (e : Rm) : Statement (.and_23 reg e) :=
  .inr (.inr (namedRow_of_maker (rowsOne2_sub (List.mem_of_getElem? (i := 3) rfl))
    (f := .block reg e []) rfl (slotMatches_none _)))
theorem and_24 (imm : BitVec 8) : Statement (.and_24 imm) :=
  .inr (.inr (namedRow_of_maker (rowsOne2_sub (List.mem_of_getElem? (i := 4) rfl))
    (f := .plain [.f8 imm]) rfl (slotMatches_none _)))
theorem and_25 (imm : Field) : Statement (.and_25 imm) :=
  .inr (.inr (namedRow_of_maker (rowsOne2_sub (List.mem_of_getElem? (i := 5) rfl))
    (f := .plain [imm]) rfl (slotMatches_none _)))
theorem daa_27 : Statement (.daa_27) :=
  .inr (.inr (namedRow_of_maker (rowsOne2_sub (List.mem_of_getElem? (i := 6) rfl))
    (f := .plain []) rfl (slotMatches_none _)))
theorem sub_28 (reg : BitVec 3) (e : Rm) : Statement (.sub_28 reg e) :=
  .inr (.inr (namedRow_of_maker (rowsOne2_sub (List.mem_of_getElem? (i := 7) rfl))
    (f := .block reg e []) rfl (slotMatches_none _)))
theorem sub_29 (reg : BitVec 3) (e : Rm) : Statement (.sub_29 reg e) :=
  .inr (.inr (namedRow_of_maker (rowsOne2_sub (List.mem_of_getElem? (i := 8) rfl))
    (f := .block reg e []) rfl (slotMatches_none _)))
theorem sub_2A (reg : BitVec 3) (e : Rm) : Statement (.sub_2A reg e) :=
  .inr (.inr (namedRow_of_maker (rowsOne2_sub (List.mem_of_getElem? (i := 9) rfl))
    (f := .block reg e []) rfl (slotMatches_none _)))
theorem sub_2B (reg : BitVec 3) (e : Rm) : Statement (.sub_2B reg e) :=
  .inr (.inr (namedRow_of_maker (rowsOne2_sub (List.mem_of_getElem? (i := 10) rfl))
    (f := .block reg e []) rfl (slotMatches_none _)))
theorem sub_2C (imm : BitVec 8) : Statement (.sub_2C imm) :=
  .inr (.inr (namedRow_of_maker (rowsOne2_sub (List.mem_of_getElem? (i := 11) rfl))
    (f := .plain [.f8 imm]) rfl (slotMatches_none _)))
theorem sub_2D (imm : Field) : Statement (.sub_2D imm) :=
  .inr (.inr (namedRow_of_maker (rowsOne2_sub (List.mem_of_getElem? (i := 12) rfl))
    (f := .plain [imm]) rfl (slotMatches_none _)))
theorem das_2F : Statement (.das_2F) :=
  .inr (.inr (namedRow_of_maker (rowsOne2_sub (List.mem_of_getElem? (i := 13) rfl))
    (f := .plain []) rfl (slotMatches_none _)))
theorem xor_30 (reg : BitVec 3) (e : Rm) : Statement (.xor_30 reg e) :=
  .inr (.inr (namedRow_of_maker (rowsOne3_sub (List.mem_of_getElem? (i := 0) rfl))
    (f := .block reg e []) rfl (slotMatches_none _)))
theorem xor_31 (reg : BitVec 3) (e : Rm) : Statement (.xor_31 reg e) :=
  .inr (.inr (namedRow_of_maker (rowsOne3_sub (List.mem_of_getElem? (i := 1) rfl))
    (f := .block reg e []) rfl (slotMatches_none _)))
theorem xor_32 (reg : BitVec 3) (e : Rm) : Statement (.xor_32 reg e) :=
  .inr (.inr (namedRow_of_maker (rowsOne3_sub (List.mem_of_getElem? (i := 2) rfl))
    (f := .block reg e []) rfl (slotMatches_none _)))
theorem xor_33 (reg : BitVec 3) (e : Rm) : Statement (.xor_33 reg e) :=
  .inr (.inr (namedRow_of_maker (rowsOne3_sub (List.mem_of_getElem? (i := 3) rfl))
    (f := .block reg e []) rfl (slotMatches_none _)))
theorem xor_34 (imm : BitVec 8) : Statement (.xor_34 imm) :=
  .inr (.inr (namedRow_of_maker (rowsOne3_sub (List.mem_of_getElem? (i := 4) rfl))
    (f := .plain [.f8 imm]) rfl (slotMatches_none _)))
theorem xor_35 (imm : Field) : Statement (.xor_35 imm) :=
  .inr (.inr (namedRow_of_maker (rowsOne3_sub (List.mem_of_getElem? (i := 5) rfl))
    (f := .plain [imm]) rfl (slotMatches_none _)))
theorem aaa_37 : Statement (.aaa_37) :=
  .inr (.inr (namedRow_of_maker (rowsOne3_sub (List.mem_of_getElem? (i := 6) rfl))
    (f := .plain []) rfl (slotMatches_none _)))
theorem cmp_38 (reg : BitVec 3) (e : Rm) : Statement (.cmp_38 reg e) :=
  .inr (.inr (namedRow_of_maker (rowsOne3_sub (List.mem_of_getElem? (i := 7) rfl))
    (f := .block reg e []) rfl (slotMatches_none _)))
theorem cmp_39 (reg : BitVec 3) (e : Rm) : Statement (.cmp_39 reg e) :=
  .inr (.inr (namedRow_of_maker (rowsOne3_sub (List.mem_of_getElem? (i := 8) rfl))
    (f := .block reg e []) rfl (slotMatches_none _)))
theorem cmp_3A (reg : BitVec 3) (e : Rm) : Statement (.cmp_3A reg e) :=
  .inr (.inr (namedRow_of_maker (rowsOne3_sub (List.mem_of_getElem? (i := 9) rfl))
    (f := .block reg e []) rfl (slotMatches_none _)))
theorem cmp_3B (reg : BitVec 3) (e : Rm) : Statement (.cmp_3B reg e) :=
  .inr (.inr (namedRow_of_maker (rowsOne3_sub (List.mem_of_getElem? (i := 10) rfl))
    (f := .block reg e []) rfl (slotMatches_none _)))
theorem cmp_3C (imm : BitVec 8) : Statement (.cmp_3C imm) :=
  .inr (.inr (namedRow_of_maker (rowsOne3_sub (List.mem_of_getElem? (i := 11) rfl))
    (f := .plain [.f8 imm]) rfl (slotMatches_none _)))
theorem cmp_3D (imm : Field) : Statement (.cmp_3D imm) :=
  .inr (.inr (namedRow_of_maker (rowsOne3_sub (List.mem_of_getElem? (i := 12) rfl))
    (f := .plain [imm]) rfl (slotMatches_none _)))
theorem aas_3F : Statement (.aas_3F) :=
  .inr (.inr (namedRow_of_maker (rowsOne3_sub (List.mem_of_getElem? (i := 13) rfl))
    (f := .plain []) rfl (slotMatches_none _)))
theorem inc_40 : ∀ (r : BitVec 3), Statement (.inc_40 r) :=
  forall_bitVec3 (.inr (.inr (namedRow_of_maker (rowsOne4_sub (List.mem_of_getElem? (i := 0) rfl))
    (f := .plain []) rfl (slotMatches_none _))))
    (.inr (.inr (namedRow_of_maker (rowsOne4_sub (List.mem_of_getElem? (i := 1) rfl))
    (f := .plain []) rfl (slotMatches_none _))))
    (.inr (.inr (namedRow_of_maker (rowsOne4_sub (List.mem_of_getElem? (i := 2) rfl))
    (f := .plain []) rfl (slotMatches_none _))))
    (.inr (.inr (namedRow_of_maker (rowsOne4_sub (List.mem_of_getElem? (i := 3) rfl))
    (f := .plain []) rfl (slotMatches_none _))))
    (.inr (.inr (namedRow_of_maker (rowsOne4_sub (List.mem_of_getElem? (i := 4) rfl))
    (f := .plain []) rfl (slotMatches_none _))))
    (.inr (.inr (namedRow_of_maker (rowsOne4_sub (List.mem_of_getElem? (i := 5) rfl))
    (f := .plain []) rfl (slotMatches_none _))))
    (.inr (.inr (namedRow_of_maker (rowsOne4_sub (List.mem_of_getElem? (i := 6) rfl))
    (f := .plain []) rfl (slotMatches_none _))))
    (.inr (.inr (namedRow_of_maker (rowsOne4_sub (List.mem_of_getElem? (i := 7) rfl))
    (f := .plain []) rfl (slotMatches_none _))))
theorem dec_48 : ∀ (r : BitVec 3), Statement (.dec_48 r) :=
  forall_bitVec3 (.inr (.inr (namedRow_of_maker (rowsOne4_sub (List.mem_of_getElem? (i := 8) rfl))
    (f := .plain []) rfl (slotMatches_none _))))
    (.inr (.inr (namedRow_of_maker (rowsOne4_sub (List.mem_of_getElem? (i := 9) rfl))
    (f := .plain []) rfl (slotMatches_none _))))
    (.inr (.inr (namedRow_of_maker (rowsOne4_sub (List.mem_of_getElem? (i := 10) rfl))
    (f := .plain []) rfl (slotMatches_none _))))
    (.inr (.inr (namedRow_of_maker (rowsOne4_sub (List.mem_of_getElem? (i := 11) rfl))
    (f := .plain []) rfl (slotMatches_none _))))
    (.inr (.inr (namedRow_of_maker (rowsOne4_sub (List.mem_of_getElem? (i := 12) rfl))
    (f := .plain []) rfl (slotMatches_none _))))
    (.inr (.inr (namedRow_of_maker (rowsOne4_sub (List.mem_of_getElem? (i := 13) rfl))
    (f := .plain []) rfl (slotMatches_none _))))
    (.inr (.inr (namedRow_of_maker (rowsOne4_sub (List.mem_of_getElem? (i := 14) rfl))
    (f := .plain []) rfl (slotMatches_none _))))
    (.inr (.inr (namedRow_of_maker (rowsOne4_sub (List.mem_of_getElem? (i := 15) rfl))
    (f := .plain []) rfl (slotMatches_none _))))
theorem push_50 : ∀ (r : BitVec 3), Statement (.push_50 r) :=
  forall_bitVec3 (.inr (.inr (namedRow_of_maker (rowsOne5_sub (List.mem_of_getElem? (i := 0) rfl))
    (f := .plain []) rfl (slotMatches_none _))))
    (.inr (.inr (namedRow_of_maker (rowsOne5_sub (List.mem_of_getElem? (i := 1) rfl))
    (f := .plain []) rfl (slotMatches_none _))))
    (.inr (.inr (namedRow_of_maker (rowsOne5_sub (List.mem_of_getElem? (i := 2) rfl))
    (f := .plain []) rfl (slotMatches_none _))))
    (.inr (.inr (namedRow_of_maker (rowsOne5_sub (List.mem_of_getElem? (i := 3) rfl))
    (f := .plain []) rfl (slotMatches_none _))))
    (.inr (.inr (namedRow_of_maker (rowsOne5_sub (List.mem_of_getElem? (i := 4) rfl))
    (f := .plain []) rfl (slotMatches_none _))))
    (.inr (.inr (namedRow_of_maker (rowsOne5_sub (List.mem_of_getElem? (i := 5) rfl))
    (f := .plain []) rfl (slotMatches_none _))))
    (.inr (.inr (namedRow_of_maker (rowsOne5_sub (List.mem_of_getElem? (i := 6) rfl))
    (f := .plain []) rfl (slotMatches_none _))))
    (.inr (.inr (namedRow_of_maker (rowsOne5_sub (List.mem_of_getElem? (i := 7) rfl))
    (f := .plain []) rfl (slotMatches_none _))))
theorem pop_58 : ∀ (r : BitVec 3), Statement (.pop_58 r) :=
  forall_bitVec3 (.inr (.inr (namedRow_of_maker (rowsOne5_sub (List.mem_of_getElem? (i := 8) rfl))
    (f := .plain []) rfl (slotMatches_none _))))
    (.inr (.inr (namedRow_of_maker (rowsOne5_sub (List.mem_of_getElem? (i := 9) rfl))
    (f := .plain []) rfl (slotMatches_none _))))
    (.inr (.inr (namedRow_of_maker (rowsOne5_sub (List.mem_of_getElem? (i := 10) rfl))
    (f := .plain []) rfl (slotMatches_none _))))
    (.inr (.inr (namedRow_of_maker (rowsOne5_sub (List.mem_of_getElem? (i := 11) rfl))
    (f := .plain []) rfl (slotMatches_none _))))
    (.inr (.inr (namedRow_of_maker (rowsOne5_sub (List.mem_of_getElem? (i := 12) rfl))
    (f := .plain []) rfl (slotMatches_none _))))
    (.inr (.inr (namedRow_of_maker (rowsOne5_sub (List.mem_of_getElem? (i := 13) rfl))
    (f := .plain []) rfl (slotMatches_none _))))
    (.inr (.inr (namedRow_of_maker (rowsOne5_sub (List.mem_of_getElem? (i := 14) rfl))
    (f := .plain []) rfl (slotMatches_none _))))
    (.inr (.inr (namedRow_of_maker (rowsOne5_sub (List.mem_of_getElem? (i := 15) rfl))
    (f := .plain []) rfl (slotMatches_none _))))
theorem pusha_60 : Statement (.pusha_60) :=
  .inr (.inr (namedRow_of_maker (rowsOne6_sub (List.mem_of_getElem? (i := 0) rfl))
    (f := .plain []) rfl (slotMatches_none _)))
theorem popa_61 : Statement (.popa_61) :=
  .inr (.inr (namedRow_of_maker (rowsOne6_sub (List.mem_of_getElem? (i := 1) rfl))
    (f := .plain []) rfl (slotMatches_none _)))
theorem bound_62 (reg : BitVec 3) (e : Rm) : Statement (.bound_62 reg e) :=
  .inr (.inr (namedRow_of_maker (rowsOne6_sub (List.mem_of_getElem? (i := 2) rfl))
    (f := .block reg e []) rfl (slotMatches_none _)))
theorem arpl_63 (reg : BitVec 3) (e : Rm) : Statement (.arpl_63 reg e) :=
  .inr (.inr (namedRow_of_maker (rowsOne6_sub (List.mem_of_getElem? (i := 3) rfl))
    (f := .block reg e []) rfl (slotMatches_none _)))
theorem push_68 (imm : Field) : Statement (.push_68 imm) :=
  .inr (.inr (namedRow_of_maker (rowsOne6_sub (List.mem_of_getElem? (i := 4) rfl))
    (f := .plain [imm]) rfl (slotMatches_none _)))
theorem imul_69 (reg : BitVec 3) (e : Rm) (imm : Field) : Statement (.imul_69 reg e imm) :=
  .inr (.inr (namedRow_of_maker (rowsOne6_sub (List.mem_of_getElem? (i := 5) rfl))
    (f := .block reg e [imm]) rfl (slotMatches_none _)))
theorem push_6A (imm : BitVec 8) : Statement (.push_6A imm) :=
  .inr (.inr (namedRow_of_maker (rowsOne6_sub (List.mem_of_getElem? (i := 6) rfl))
    (f := .plain [.f8 imm]) rfl (slotMatches_none _)))
theorem imul_6B (reg : BitVec 3) (e : Rm) (imm : BitVec 8) : Statement (.imul_6B reg e imm) :=
  .inr (.inr (namedRow_of_maker (rowsOne6_sub (List.mem_of_getElem? (i := 7) rfl))
    (f := .block reg e [.f8 imm]) rfl (slotMatches_none _)))
theorem insb_6C : Statement (.insb_6C) :=
  .inr (.inr (namedRow_of_maker (rowsOne6_sub (List.mem_of_getElem? (i := 8) rfl))
    (f := .plain []) rfl (slotMatches_none _)))
theorem insw_6D : Statement (.insw_6D) :=
  .inr (.inr (namedRow_of_maker (rowsOne6_sub (List.mem_of_getElem? (i := 9) rfl))
    (f := .plain []) rfl (slotMatches_none _)))
theorem outsb_6E : Statement (.outsb_6E) :=
  .inr (.inr (namedRow_of_maker (rowsOne6_sub (List.mem_of_getElem? (i := 10) rfl))
    (f := .plain []) rfl (slotMatches_none _)))
theorem outsw_6F : Statement (.outsw_6F) :=
  .inr (.inr (namedRow_of_maker (rowsOne6_sub (List.mem_of_getElem? (i := 11) rfl))
    (f := .plain []) rfl (slotMatches_none _)))
theorem jo_70 (rel : BitVec 8) : Statement (.jo_70 rel) :=
  .inr (.inr (namedRow_of_maker (rowsOne7_sub (List.mem_of_getElem? (i := 0) rfl))
    (f := .plain [.f8 rel]) rfl (slotMatches_none _)))
theorem jno_71 (rel : BitVec 8) : Statement (.jno_71 rel) :=
  .inr (.inr (namedRow_of_maker (rowsOne7_sub (List.mem_of_getElem? (i := 1) rfl))
    (f := .plain [.f8 rel]) rfl (slotMatches_none _)))
theorem jb_72 (rel : BitVec 8) : Statement (.jb_72 rel) :=
  .inr (.inr (namedRow_of_maker (rowsOne7_sub (List.mem_of_getElem? (i := 2) rfl))
    (f := .plain [.f8 rel]) rfl (slotMatches_none _)))
theorem jnb_73 (rel : BitVec 8) : Statement (.jnb_73 rel) :=
  .inr (.inr (namedRow_of_maker (rowsOne7_sub (List.mem_of_getElem? (i := 3) rfl))
    (f := .plain [.f8 rel]) rfl (slotMatches_none _)))
theorem jz_74 (rel : BitVec 8) : Statement (.jz_74 rel) :=
  .inr (.inr (namedRow_of_maker (rowsOne7_sub (List.mem_of_getElem? (i := 4) rfl))
    (f := .plain [.f8 rel]) rfl (slotMatches_none _)))
theorem jnz_75 (rel : BitVec 8) : Statement (.jnz_75 rel) :=
  .inr (.inr (namedRow_of_maker (rowsOne7_sub (List.mem_of_getElem? (i := 5) rfl))
    (f := .plain [.f8 rel]) rfl (slotMatches_none _)))
theorem jbe_76 (rel : BitVec 8) : Statement (.jbe_76 rel) :=
  .inr (.inr (namedRow_of_maker (rowsOne7_sub (List.mem_of_getElem? (i := 6) rfl))
    (f := .plain [.f8 rel]) rfl (slotMatches_none _)))
theorem jnbe_77 (rel : BitVec 8) : Statement (.jnbe_77 rel) :=
  .inr (.inr (namedRow_of_maker (rowsOne7_sub (List.mem_of_getElem? (i := 7) rfl))
    (f := .plain [.f8 rel]) rfl (slotMatches_none _)))
theorem js_78 (rel : BitVec 8) : Statement (.js_78 rel) :=
  .inr (.inr (namedRow_of_maker (rowsOne7_sub (List.mem_of_getElem? (i := 8) rfl))
    (f := .plain [.f8 rel]) rfl (slotMatches_none _)))
theorem jns_79 (rel : BitVec 8) : Statement (.jns_79 rel) :=
  .inr (.inr (namedRow_of_maker (rowsOne7_sub (List.mem_of_getElem? (i := 9) rfl))
    (f := .plain [.f8 rel]) rfl (slotMatches_none _)))
theorem jp_7A (rel : BitVec 8) : Statement (.jp_7A rel) :=
  .inr (.inr (namedRow_of_maker (rowsOne7_sub (List.mem_of_getElem? (i := 10) rfl))
    (f := .plain [.f8 rel]) rfl (slotMatches_none _)))
theorem jnp_7B (rel : BitVec 8) : Statement (.jnp_7B rel) :=
  .inr (.inr (namedRow_of_maker (rowsOne7_sub (List.mem_of_getElem? (i := 11) rfl))
    (f := .plain [.f8 rel]) rfl (slotMatches_none _)))
theorem jl_7C (rel : BitVec 8) : Statement (.jl_7C rel) :=
  .inr (.inr (namedRow_of_maker (rowsOne7_sub (List.mem_of_getElem? (i := 12) rfl))
    (f := .plain [.f8 rel]) rfl (slotMatches_none _)))
theorem jnl_7D (rel : BitVec 8) : Statement (.jnl_7D rel) :=
  .inr (.inr (namedRow_of_maker (rowsOne7_sub (List.mem_of_getElem? (i := 13) rfl))
    (f := .plain [.f8 rel]) rfl (slotMatches_none _)))
theorem jle_7E (rel : BitVec 8) : Statement (.jle_7E rel) :=
  .inr (.inr (namedRow_of_maker (rowsOne7_sub (List.mem_of_getElem? (i := 14) rfl))
    (f := .plain [.f8 rel]) rfl (slotMatches_none _)))
theorem jnle_7F (rel : BitVec 8) : Statement (.jnle_7F rel) :=
  .inr (.inr (namedRow_of_maker (rowsOne7_sub (List.mem_of_getElem? (i := 15) rfl))
    (f := .plain [.f8 rel]) rfl (slotMatches_none _)))
theorem add_80_0 (e : Rm) (imm : BitVec 8) : Statement (.add_80_0 e imm) :=
  .inr (.inr (namedRow_of_maker (rowsOne8_sub (List.mem_of_getElem? (i := 0) rfl))
    (f := .block 0#3 e [.f8 imm]) rfl (slotMatches_block _ _ _)))
theorem or_80_1 (e : Rm) (imm : BitVec 8) : Statement (.or_80_1 e imm) :=
  .inr (.inr (namedRow_of_maker (rowsOne8_sub (List.mem_of_getElem? (i := 1) rfl))
    (f := .block 1#3 e [.f8 imm]) rfl (slotMatches_block _ _ _)))
theorem adc_80_2 (e : Rm) (imm : BitVec 8) : Statement (.adc_80_2 e imm) :=
  .inr (.inr (namedRow_of_maker (rowsOne8_sub (List.mem_of_getElem? (i := 2) rfl))
    (f := .block 2#3 e [.f8 imm]) rfl (slotMatches_block _ _ _)))
theorem sbb_80_3 (e : Rm) (imm : BitVec 8) : Statement (.sbb_80_3 e imm) :=
  .inr (.inr (namedRow_of_maker (rowsOne8_sub (List.mem_of_getElem? (i := 3) rfl))
    (f := .block 3#3 e [.f8 imm]) rfl (slotMatches_block _ _ _)))
theorem and_80_4 (e : Rm) (imm : BitVec 8) : Statement (.and_80_4 e imm) :=
  .inr (.inr (namedRow_of_maker (rowsOne8_sub (List.mem_of_getElem? (i := 4) rfl))
    (f := .block 4#3 e [.f8 imm]) rfl (slotMatches_block _ _ _)))
theorem sub_80_5 (e : Rm) (imm : BitVec 8) : Statement (.sub_80_5 e imm) :=
  .inr (.inr (namedRow_of_maker (rowsOne8_sub (List.mem_of_getElem? (i := 5) rfl))
    (f := .block 5#3 e [.f8 imm]) rfl (slotMatches_block _ _ _)))
theorem xor_80_6 (e : Rm) (imm : BitVec 8) : Statement (.xor_80_6 e imm) :=
  .inr (.inr (namedRow_of_maker (rowsOne8_sub (List.mem_of_getElem? (i := 6) rfl))
    (f := .block 6#3 e [.f8 imm]) rfl (slotMatches_block _ _ _)))
theorem cmp_80_7 (e : Rm) (imm : BitVec 8) : Statement (.cmp_80_7 e imm) :=
  .inr (.inr (namedRow_of_maker (rowsOne8_sub (List.mem_of_getElem? (i := 7) rfl))
    (f := .block 7#3 e [.f8 imm]) rfl (slotMatches_block _ _ _)))
theorem add_81_0 (e : Rm) (imm : Field) : Statement (.add_81_0 e imm) :=
  .inr (.inr (namedRow_of_maker (rowsOne8_sub (List.mem_of_getElem? (i := 8) rfl))
    (f := .block 0#3 e [imm]) rfl (slotMatches_block _ _ _)))
theorem or_81_1 (e : Rm) (imm : Field) : Statement (.or_81_1 e imm) :=
  .inr (.inr (namedRow_of_maker (rowsOne8_sub (List.mem_of_getElem? (i := 9) rfl))
    (f := .block 1#3 e [imm]) rfl (slotMatches_block _ _ _)))
theorem adc_81_2 (e : Rm) (imm : Field) : Statement (.adc_81_2 e imm) :=
  .inr (.inr (namedRow_of_maker (rowsOne8_sub (List.mem_of_getElem? (i := 10) rfl))
    (f := .block 2#3 e [imm]) rfl (slotMatches_block _ _ _)))
theorem sbb_81_3 (e : Rm) (imm : Field) : Statement (.sbb_81_3 e imm) :=
  .inr (.inr (namedRow_of_maker (rowsOne8_sub (List.mem_of_getElem? (i := 11) rfl))
    (f := .block 3#3 e [imm]) rfl (slotMatches_block _ _ _)))
theorem and_81_4 (e : Rm) (imm : Field) : Statement (.and_81_4 e imm) :=
  .inr (.inr (namedRow_of_maker (rowsOne8_sub (List.mem_of_getElem? (i := 12) rfl))
    (f := .block 4#3 e [imm]) rfl (slotMatches_block _ _ _)))
theorem sub_81_5 (e : Rm) (imm : Field) : Statement (.sub_81_5 e imm) :=
  .inr (.inr (namedRow_of_maker (rowsOne8_sub (List.mem_of_getElem? (i := 13) rfl))
    (f := .block 5#3 e [imm]) rfl (slotMatches_block _ _ _)))
theorem xor_81_6 (e : Rm) (imm : Field) : Statement (.xor_81_6 e imm) :=
  .inr (.inr (namedRow_of_maker (rowsOne8_sub (List.mem_of_getElem? (i := 14) rfl))
    (f := .block 6#3 e [imm]) rfl (slotMatches_block _ _ _)))
theorem cmp_81_7 (e : Rm) (imm : Field) : Statement (.cmp_81_7 e imm) :=
  .inr (.inr (namedRow_of_maker (rowsOne8_sub (List.mem_of_getElem? (i := 15) rfl))
    (f := .block 7#3 e [imm]) rfl (slotMatches_block _ _ _)))
theorem add_82_0 (e : Rm) (imm : BitVec 8) : Statement (.add_82_0 e imm) :=
  .inr (.inr (namedRow_of_maker (rowsOne8_sub (List.mem_of_getElem? (i := 16) rfl))
    (f := .block 0#3 e [.f8 imm]) rfl (slotMatches_block _ _ _)))
theorem or_82_1 (e : Rm) (imm : BitVec 8) : Statement (.or_82_1 e imm) :=
  .inr (.inr (namedRow_of_maker (rowsOne8_sub (List.mem_of_getElem? (i := 17) rfl))
    (f := .block 1#3 e [.f8 imm]) rfl (slotMatches_block _ _ _)))
theorem adc_82_2 (e : Rm) (imm : BitVec 8) : Statement (.adc_82_2 e imm) :=
  .inr (.inr (namedRow_of_maker (rowsOne8_sub (List.mem_of_getElem? (i := 18) rfl))
    (f := .block 2#3 e [.f8 imm]) rfl (slotMatches_block _ _ _)))
theorem sbb_82_3 (e : Rm) (imm : BitVec 8) : Statement (.sbb_82_3 e imm) :=
  .inr (.inr (namedRow_of_maker (rowsOne8_sub (List.mem_of_getElem? (i := 19) rfl))
    (f := .block 3#3 e [.f8 imm]) rfl (slotMatches_block _ _ _)))
theorem and_82_4 (e : Rm) (imm : BitVec 8) : Statement (.and_82_4 e imm) :=
  .inr (.inr (namedRow_of_maker (rowsOne8_sub (List.mem_of_getElem? (i := 20) rfl))
    (f := .block 4#3 e [.f8 imm]) rfl (slotMatches_block _ _ _)))
theorem sub_82_5 (e : Rm) (imm : BitVec 8) : Statement (.sub_82_5 e imm) :=
  .inr (.inr (namedRow_of_maker (rowsOne8_sub (List.mem_of_getElem? (i := 21) rfl))
    (f := .block 5#3 e [.f8 imm]) rfl (slotMatches_block _ _ _)))
theorem xor_82_6 (e : Rm) (imm : BitVec 8) : Statement (.xor_82_6 e imm) :=
  .inr (.inr (namedRow_of_maker (rowsOne8_sub (List.mem_of_getElem? (i := 22) rfl))
    (f := .block 6#3 e [.f8 imm]) rfl (slotMatches_block _ _ _)))
theorem cmp_82_7 (e : Rm) (imm : BitVec 8) : Statement (.cmp_82_7 e imm) :=
  .inr (.inr (namedRow_of_maker (rowsOne8_sub (List.mem_of_getElem? (i := 23) rfl))
    (f := .block 7#3 e [.f8 imm]) rfl (slotMatches_block _ _ _)))
theorem add_83_0 (e : Rm) (imm : BitVec 8) : Statement (.add_83_0 e imm) :=
  .inr (.inr (namedRow_of_maker (rowsOne8_sub (List.mem_of_getElem? (i := 24) rfl))
    (f := .block 0#3 e [.f8 imm]) rfl (slotMatches_block _ _ _)))
theorem or_83_1 (e : Rm) (imm : BitVec 8) : Statement (.or_83_1 e imm) :=
  .inr (.inr (namedRow_of_maker (rowsOne8_sub (List.mem_of_getElem? (i := 25) rfl))
    (f := .block 1#3 e [.f8 imm]) rfl (slotMatches_block _ _ _)))
theorem adc_83_2 (e : Rm) (imm : BitVec 8) : Statement (.adc_83_2 e imm) :=
  .inr (.inr (namedRow_of_maker (rowsOne8_sub (List.mem_of_getElem? (i := 26) rfl))
    (f := .block 2#3 e [.f8 imm]) rfl (slotMatches_block _ _ _)))
theorem sbb_83_3 (e : Rm) (imm : BitVec 8) : Statement (.sbb_83_3 e imm) :=
  .inr (.inr (namedRow_of_maker (rowsOne8_sub (List.mem_of_getElem? (i := 27) rfl))
    (f := .block 3#3 e [.f8 imm]) rfl (slotMatches_block _ _ _)))
theorem and_83_4 (e : Rm) (imm : BitVec 8) : Statement (.and_83_4 e imm) :=
  .inr (.inr (namedRow_of_maker (rowsOne8_sub (List.mem_of_getElem? (i := 28) rfl))
    (f := .block 4#3 e [.f8 imm]) rfl (slotMatches_block _ _ _)))
theorem sub_83_5 (e : Rm) (imm : BitVec 8) : Statement (.sub_83_5 e imm) :=
  .inr (.inr (namedRow_of_maker (rowsOne8_sub (List.mem_of_getElem? (i := 29) rfl))
    (f := .block 5#3 e [.f8 imm]) rfl (slotMatches_block _ _ _)))
theorem xor_83_6 (e : Rm) (imm : BitVec 8) : Statement (.xor_83_6 e imm) :=
  .inr (.inr (namedRow_of_maker (rowsOne8_sub (List.mem_of_getElem? (i := 30) rfl))
    (f := .block 6#3 e [.f8 imm]) rfl (slotMatches_block _ _ _)))
theorem cmp_83_7 (e : Rm) (imm : BitVec 8) : Statement (.cmp_83_7 e imm) :=
  .inr (.inr (namedRow_of_maker (rowsOne8_sub (List.mem_of_getElem? (i := 31) rfl))
    (f := .block 7#3 e [.f8 imm]) rfl (slotMatches_block _ _ _)))
theorem test_84 (reg : BitVec 3) (e : Rm) : Statement (.test_84 reg e) :=
  .inr (.inr (namedRow_of_maker (rowsOne8_sub (List.mem_of_getElem? (i := 32) rfl))
    (f := .block reg e []) rfl (slotMatches_none _)))
theorem test_85 (reg : BitVec 3) (e : Rm) : Statement (.test_85 reg e) :=
  .inr (.inr (namedRow_of_maker (rowsOne8_sub (List.mem_of_getElem? (i := 33) rfl))
    (f := .block reg e []) rfl (slotMatches_none _)))
theorem xchg_86 (reg : BitVec 3) (e : Rm) : Statement (.xchg_86 reg e) :=
  .inr (.inr (namedRow_of_maker (rowsOne8_sub (List.mem_of_getElem? (i := 34) rfl))
    (f := .block reg e []) rfl (slotMatches_none _)))
theorem xchg_87 (reg : BitVec 3) (e : Rm) : Statement (.xchg_87 reg e) :=
  .inr (.inr (namedRow_of_maker (rowsOne8_sub (List.mem_of_getElem? (i := 35) rfl))
    (f := .block reg e []) rfl (slotMatches_none _)))
theorem mov_88 (reg : BitVec 3) (e : Rm) : Statement (.mov_88 reg e) :=
  .inr (.inr (namedRow_of_maker (rowsOne8_sub (List.mem_of_getElem? (i := 36) rfl))
    (f := .block reg e []) rfl (slotMatches_none _)))
theorem mov_89 (reg : BitVec 3) (e : Rm) : Statement (.mov_89 reg e) :=
  .inr (.inr (namedRow_of_maker (rowsOne8_sub (List.mem_of_getElem? (i := 37) rfl))
    (f := .block reg e []) rfl (slotMatches_none _)))
theorem mov_8A (reg : BitVec 3) (e : Rm) : Statement (.mov_8A reg e) :=
  .inr (.inr (namedRow_of_maker (rowsOne8_sub (List.mem_of_getElem? (i := 38) rfl))
    (f := .block reg e []) rfl (slotMatches_none _)))
theorem mov_8B (reg : BitVec 3) (e : Rm) : Statement (.mov_8B reg e) :=
  .inr (.inr (namedRow_of_maker (rowsOne8_sub (List.mem_of_getElem? (i := 39) rfl))
    (f := .block reg e []) rfl (slotMatches_none _)))
theorem mov_8C (reg : BitVec 3) (e : Rm) : Statement (.mov_8C reg e) :=
  .inr (.inr (namedRow_of_maker (rowsOne8_sub (List.mem_of_getElem? (i := 40) rfl))
    (f := .block reg e []) rfl (slotMatches_none _)))
theorem lea_8D (reg : BitVec 3) (e : Rm) : Statement (.lea_8D reg e) :=
  .inr (.inr (namedRow_of_maker (rowsOne8_sub (List.mem_of_getElem? (i := 41) rfl))
    (f := .block reg e []) rfl (slotMatches_none _)))
theorem mov_8E (reg : BitVec 3) (e : Rm) : Statement (.mov_8E reg e) :=
  .inr (.inr (namedRow_of_maker (rowsOne8_sub (List.mem_of_getElem? (i := 42) rfl))
    (f := .block reg e []) rfl (slotMatches_none _)))
theorem pop_8F_0 (e : Rm) : Statement (.pop_8F_0 e) :=
  .inr (.inr (namedRow_of_maker (rowsOne8_sub (List.mem_of_getElem? (i := 43) rfl))
    (f := .block 0#3 e []) rfl (slotMatches_block _ _ _)))
theorem nop_90 : Statement (.nop_90) :=
  .inr (.inr (namedRow_of_maker (rowsOne9_sub (List.mem_of_getElem? (i := 0) rfl))
    (f := .plain []) rfl (slotMatches_none _)))
theorem xchg_91 : Statement (.xchg_91) :=
  .inr (.inr (namedRow_of_maker (rowsOne9_sub (List.mem_of_getElem? (i := 1) rfl))
    (f := .plain []) rfl (slotMatches_none _)))
theorem xchg_92 : Statement (.xchg_92) :=
  .inr (.inr (namedRow_of_maker (rowsOne9_sub (List.mem_of_getElem? (i := 2) rfl))
    (f := .plain []) rfl (slotMatches_none _)))
theorem xchg_93 : Statement (.xchg_93) :=
  .inr (.inr (namedRow_of_maker (rowsOne9_sub (List.mem_of_getElem? (i := 3) rfl))
    (f := .plain []) rfl (slotMatches_none _)))
theorem xchg_94 : Statement (.xchg_94) :=
  .inr (.inr (namedRow_of_maker (rowsOne9_sub (List.mem_of_getElem? (i := 4) rfl))
    (f := .plain []) rfl (slotMatches_none _)))
theorem xchg_95 : Statement (.xchg_95) :=
  .inr (.inr (namedRow_of_maker (rowsOne9_sub (List.mem_of_getElem? (i := 5) rfl))
    (f := .plain []) rfl (slotMatches_none _)))
theorem xchg_96 : Statement (.xchg_96) :=
  .inr (.inr (namedRow_of_maker (rowsOne9_sub (List.mem_of_getElem? (i := 6) rfl))
    (f := .plain []) rfl (slotMatches_none _)))
theorem xchg_97 : Statement (.xchg_97) :=
  .inr (.inr (namedRow_of_maker (rowsOne9_sub (List.mem_of_getElem? (i := 7) rfl))
    (f := .plain []) rfl (slotMatches_none _)))
theorem cbw_98 : Statement (.cbw_98) :=
  .inr (.inr (namedRow_of_maker (rowsOne9_sub (List.mem_of_getElem? (i := 8) rfl))
    (f := .plain []) rfl (slotMatches_none _)))
theorem cwd_99 : Statement (.cwd_99) :=
  .inr (.inr (namedRow_of_maker (rowsOne9_sub (List.mem_of_getElem? (i := 9) rfl))
    (f := .plain []) rfl (slotMatches_none _)))
theorem callf_9A (off : Field) (sel : BitVec 16) : Statement (.callf_9A off sel) :=
  .inr (.inr (namedRow_of_maker (rowsOne9_sub (List.mem_of_getElem? (i := 10) rfl))
    (f := .plain [off, .f16 sel]) rfl (slotMatches_none _)))
theorem wait_9B : Statement (.wait_9B) :=
  .inr (.inr (namedRow_of_maker (rowsOne9_sub (List.mem_of_getElem? (i := 11) rfl))
    (f := .plain []) rfl (slotMatches_none _)))
theorem pushf_9C : Statement (.pushf_9C) :=
  .inr (.inr (namedRow_of_maker (rowsOne9_sub (List.mem_of_getElem? (i := 12) rfl))
    (f := .plain []) rfl (slotMatches_none _)))
theorem popf_9D : Statement (.popf_9D) :=
  .inr (.inr (namedRow_of_maker (rowsOne9_sub (List.mem_of_getElem? (i := 13) rfl))
    (f := .plain []) rfl (slotMatches_none _)))
theorem sahf_9E : Statement (.sahf_9E) :=
  .inr (.inr (namedRow_of_maker (rowsOne9_sub (List.mem_of_getElem? (i := 14) rfl))
    (f := .plain []) rfl (slotMatches_none _)))
theorem lahf_9F : Statement (.lahf_9F) :=
  .inr (.inr (namedRow_of_maker (rowsOne9_sub (List.mem_of_getElem? (i := 15) rfl))
    (f := .plain []) rfl (slotMatches_none _)))
theorem mov_A0 (off : Field) : Statement (.mov_A0 off) :=
  .inr (.inr (namedRow_of_maker (rowsOneA_sub (List.mem_of_getElem? (i := 0) rfl))
    (f := .plain [off]) rfl (slotMatches_none _)))
theorem mov_A1 (off : Field) : Statement (.mov_A1 off) :=
  .inr (.inr (namedRow_of_maker (rowsOneA_sub (List.mem_of_getElem? (i := 1) rfl))
    (f := .plain [off]) rfl (slotMatches_none _)))
theorem mov_A2 (off : Field) : Statement (.mov_A2 off) :=
  .inr (.inr (namedRow_of_maker (rowsOneA_sub (List.mem_of_getElem? (i := 2) rfl))
    (f := .plain [off]) rfl (slotMatches_none _)))
theorem mov_A3 (off : Field) : Statement (.mov_A3 off) :=
  .inr (.inr (namedRow_of_maker (rowsOneA_sub (List.mem_of_getElem? (i := 3) rfl))
    (f := .plain [off]) rfl (slotMatches_none _)))
theorem movsb_A4 : Statement (.movsb_A4) :=
  .inr (.inr (namedRow_of_maker (rowsOneA_sub (List.mem_of_getElem? (i := 4) rfl))
    (f := .plain []) rfl (slotMatches_none _)))
theorem movsw_A5 : Statement (.movsw_A5) :=
  .inr (.inr (namedRow_of_maker (rowsOneA_sub (List.mem_of_getElem? (i := 5) rfl))
    (f := .plain []) rfl (slotMatches_none _)))
theorem cmpsb_A6 : Statement (.cmpsb_A6) :=
  .inr (.inr (namedRow_of_maker (rowsOneA_sub (List.mem_of_getElem? (i := 6) rfl))
    (f := .plain []) rfl (slotMatches_none _)))
theorem cmpsw_A7 : Statement (.cmpsw_A7) :=
  .inr (.inr (namedRow_of_maker (rowsOneA_sub (List.mem_of_getElem? (i := 7) rfl))
    (f := .plain []) rfl (slotMatches_none _)))
theorem test_A8 (imm : BitVec 8) : Statement (.test_A8 imm) :=
  .inr (.inr (namedRow_of_maker (rowsOneA_sub (List.mem_of_getElem? (i := 8) rfl))
    (f := .plain [.f8 imm]) rfl (slotMatches_none _)))
theorem test_A9 (imm : Field) : Statement (.test_A9 imm) :=
  .inr (.inr (namedRow_of_maker (rowsOneA_sub (List.mem_of_getElem? (i := 9) rfl))
    (f := .plain [imm]) rfl (slotMatches_none _)))
theorem stosb_AA : Statement (.stosb_AA) :=
  .inr (.inr (namedRow_of_maker (rowsOneA_sub (List.mem_of_getElem? (i := 10) rfl))
    (f := .plain []) rfl (slotMatches_none _)))
theorem stosw_AB : Statement (.stosw_AB) :=
  .inr (.inr (namedRow_of_maker (rowsOneA_sub (List.mem_of_getElem? (i := 11) rfl))
    (f := .plain []) rfl (slotMatches_none _)))
theorem lodsb_AC : Statement (.lodsb_AC) :=
  .inr (.inr (namedRow_of_maker (rowsOneA_sub (List.mem_of_getElem? (i := 12) rfl))
    (f := .plain []) rfl (slotMatches_none _)))
theorem lodsw_AD : Statement (.lodsw_AD) :=
  .inr (.inr (namedRow_of_maker (rowsOneA_sub (List.mem_of_getElem? (i := 13) rfl))
    (f := .plain []) rfl (slotMatches_none _)))
theorem scasb_AE : Statement (.scasb_AE) :=
  .inr (.inr (namedRow_of_maker (rowsOneA_sub (List.mem_of_getElem? (i := 14) rfl))
    (f := .plain []) rfl (slotMatches_none _)))
theorem scasw_AF : Statement (.scasw_AF) :=
  .inr (.inr (namedRow_of_maker (rowsOneA_sub (List.mem_of_getElem? (i := 15) rfl))
    (f := .plain []) rfl (slotMatches_none _)))
theorem mov_B0 : ∀ (r : BitVec 3) (imm : BitVec 8), Statement (.mov_B0 r imm) :=
  forall_bitVec3 (fun imm => .inr (.inr (namedRow_of_maker (rowsOneB_sub (List.mem_of_getElem? (i := 0) rfl))
    (f := .plain [.f8 imm]) rfl (slotMatches_none _))))
    (fun imm => .inr (.inr (namedRow_of_maker (rowsOneB_sub (List.mem_of_getElem? (i := 1) rfl))
    (f := .plain [.f8 imm]) rfl (slotMatches_none _))))
    (fun imm => .inr (.inr (namedRow_of_maker (rowsOneB_sub (List.mem_of_getElem? (i := 2) rfl))
    (f := .plain [.f8 imm]) rfl (slotMatches_none _))))
    (fun imm => .inr (.inr (namedRow_of_maker (rowsOneB_sub (List.mem_of_getElem? (i := 3) rfl))
    (f := .plain [.f8 imm]) rfl (slotMatches_none _))))
    (fun imm => .inr (.inr (namedRow_of_maker (rowsOneB_sub (List.mem_of_getElem? (i := 4) rfl))
    (f := .plain [.f8 imm]) rfl (slotMatches_none _))))
    (fun imm => .inr (.inr (namedRow_of_maker (rowsOneB_sub (List.mem_of_getElem? (i := 5) rfl))
    (f := .plain [.f8 imm]) rfl (slotMatches_none _))))
    (fun imm => .inr (.inr (namedRow_of_maker (rowsOneB_sub (List.mem_of_getElem? (i := 6) rfl))
    (f := .plain [.f8 imm]) rfl (slotMatches_none _))))
    (fun imm => .inr (.inr (namedRow_of_maker (rowsOneB_sub (List.mem_of_getElem? (i := 7) rfl))
    (f := .plain [.f8 imm]) rfl (slotMatches_none _))))
theorem mov_B8 : ∀ (r : BitVec 3) (imm : Field), Statement (.mov_B8 r imm) :=
  forall_bitVec3 (fun imm => .inr (.inr (namedRow_of_maker (rowsOneB_sub (List.mem_of_getElem? (i := 8) rfl))
    (f := .plain [imm]) rfl (slotMatches_none _))))
    (fun imm => .inr (.inr (namedRow_of_maker (rowsOneB_sub (List.mem_of_getElem? (i := 9) rfl))
    (f := .plain [imm]) rfl (slotMatches_none _))))
    (fun imm => .inr (.inr (namedRow_of_maker (rowsOneB_sub (List.mem_of_getElem? (i := 10) rfl))
    (f := .plain [imm]) rfl (slotMatches_none _))))
    (fun imm => .inr (.inr (namedRow_of_maker (rowsOneB_sub (List.mem_of_getElem? (i := 11) rfl))
    (f := .plain [imm]) rfl (slotMatches_none _))))
    (fun imm => .inr (.inr (namedRow_of_maker (rowsOneB_sub (List.mem_of_getElem? (i := 12) rfl))
    (f := .plain [imm]) rfl (slotMatches_none _))))
    (fun imm => .inr (.inr (namedRow_of_maker (rowsOneB_sub (List.mem_of_getElem? (i := 13) rfl))
    (f := .plain [imm]) rfl (slotMatches_none _))))
    (fun imm => .inr (.inr (namedRow_of_maker (rowsOneB_sub (List.mem_of_getElem? (i := 14) rfl))
    (f := .plain [imm]) rfl (slotMatches_none _))))
    (fun imm => .inr (.inr (namedRow_of_maker (rowsOneB_sub (List.mem_of_getElem? (i := 15) rfl))
    (f := .plain [imm]) rfl (slotMatches_none _))))
theorem rol_C0_0 (e : Rm) (imm : BitVec 8) : Statement (.rol_C0_0 e imm) :=
  .inr (.inr (namedRow_of_maker (rowsOneC_sub (List.mem_of_getElem? (i := 0) rfl))
    (f := .block 0#3 e [.f8 imm]) rfl (slotMatches_block _ _ _)))
theorem ror_C0_1 (e : Rm) (imm : BitVec 8) : Statement (.ror_C0_1 e imm) :=
  .inr (.inr (namedRow_of_maker (rowsOneC_sub (List.mem_of_getElem? (i := 1) rfl))
    (f := .block 1#3 e [.f8 imm]) rfl (slotMatches_block _ _ _)))
theorem rcl_C0_2 (e : Rm) (imm : BitVec 8) : Statement (.rcl_C0_2 e imm) :=
  .inr (.inr (namedRow_of_maker (rowsOneC_sub (List.mem_of_getElem? (i := 2) rfl))
    (f := .block 2#3 e [.f8 imm]) rfl (slotMatches_block _ _ _)))
theorem rcr_C0_3 (e : Rm) (imm : BitVec 8) : Statement (.rcr_C0_3 e imm) :=
  .inr (.inr (namedRow_of_maker (rowsOneC_sub (List.mem_of_getElem? (i := 3) rfl))
    (f := .block 3#3 e [.f8 imm]) rfl (slotMatches_block _ _ _)))
theorem shl_C0_4 (e : Rm) (imm : BitVec 8) : Statement (.shl_C0_4 e imm) :=
  .inr (.inr (namedRow_of_maker (rowsOneC_sub (List.mem_of_getElem? (i := 4) rfl))
    (f := .block 4#3 e [.f8 imm]) rfl (slotMatches_block _ _ _)))
theorem shr_C0_5 (e : Rm) (imm : BitVec 8) : Statement (.shr_C0_5 e imm) :=
  .inr (.inr (namedRow_of_maker (rowsOneC_sub (List.mem_of_getElem? (i := 5) rfl))
    (f := .block 5#3 e [.f8 imm]) rfl (slotMatches_block _ _ _)))
theorem sar_C0_7 (e : Rm) (imm : BitVec 8) : Statement (.sar_C0_7 e imm) :=
  .inr (.inr (namedRow_of_maker (rowsOneC_sub (List.mem_of_getElem? (i := 6) rfl))
    (f := .block 7#3 e [.f8 imm]) rfl (slotMatches_block _ _ _)))
theorem rol_C1_0 (e : Rm) (imm : BitVec 8) : Statement (.rol_C1_0 e imm) :=
  .inr (.inr (namedRow_of_maker (rowsOneC_sub (List.mem_of_getElem? (i := 7) rfl))
    (f := .block 0#3 e [.f8 imm]) rfl (slotMatches_block _ _ _)))
theorem ror_C1_1 (e : Rm) (imm : BitVec 8) : Statement (.ror_C1_1 e imm) :=
  .inr (.inr (namedRow_of_maker (rowsOneC_sub (List.mem_of_getElem? (i := 8) rfl))
    (f := .block 1#3 e [.f8 imm]) rfl (slotMatches_block _ _ _)))
theorem rcl_C1_2 (e : Rm) (imm : BitVec 8) : Statement (.rcl_C1_2 e imm) :=
  .inr (.inr (namedRow_of_maker (rowsOneC_sub (List.mem_of_getElem? (i := 9) rfl))
    (f := .block 2#3 e [.f8 imm]) rfl (slotMatches_block _ _ _)))
theorem rcr_C1_3 (e : Rm) (imm : BitVec 8) : Statement (.rcr_C1_3 e imm) :=
  .inr (.inr (namedRow_of_maker (rowsOneC_sub (List.mem_of_getElem? (i := 10) rfl))
    (f := .block 3#3 e [.f8 imm]) rfl (slotMatches_block _ _ _)))
theorem shl_C1_4 (e : Rm) (imm : BitVec 8) : Statement (.shl_C1_4 e imm) :=
  .inr (.inr (namedRow_of_maker (rowsOneC_sub (List.mem_of_getElem? (i := 11) rfl))
    (f := .block 4#3 e [.f8 imm]) rfl (slotMatches_block _ _ _)))
theorem shr_C1_5 (e : Rm) (imm : BitVec 8) : Statement (.shr_C1_5 e imm) :=
  .inr (.inr (namedRow_of_maker (rowsOneC_sub (List.mem_of_getElem? (i := 12) rfl))
    (f := .block 5#3 e [.f8 imm]) rfl (slotMatches_block _ _ _)))
theorem sar_C1_7 (e : Rm) (imm : BitVec 8) : Statement (.sar_C1_7 e imm) :=
  .inr (.inr (namedRow_of_maker (rowsOneC_sub (List.mem_of_getElem? (i := 13) rfl))
    (f := .block 7#3 e [.f8 imm]) rfl (slotMatches_block _ _ _)))
theorem ret_C2 (imm : BitVec 16) : Statement (.ret_C2 imm) :=
  .inr (.inr (namedRow_of_maker (rowsOneC_sub (List.mem_of_getElem? (i := 14) rfl))
    (f := .plain [.f16 imm]) rfl (slotMatches_none _)))
theorem ret_C3 : Statement (.ret_C3) :=
  .inr (.inr (namedRow_of_maker (rowsOneC_sub (List.mem_of_getElem? (i := 15) rfl))
    (f := .plain []) rfl (slotMatches_none _)))
theorem les_C4 (reg : BitVec 3) (e : Rm) : Statement (.les_C4 reg e) :=
  .inr (.inr (namedRow_of_maker (rowsOneC_sub (List.mem_of_getElem? (i := 16) rfl))
    (f := .block reg e []) rfl (slotMatches_none _)))
theorem lds_C5 (reg : BitVec 3) (e : Rm) : Statement (.lds_C5 reg e) :=
  .inr (.inr (namedRow_of_maker (rowsOneC_sub (List.mem_of_getElem? (i := 17) rfl))
    (f := .block reg e []) rfl (slotMatches_none _)))
theorem mov_C6_0 (e : Rm) (imm : BitVec 8) : Statement (.mov_C6_0 e imm) :=
  .inr (.inr (namedRow_of_maker (rowsOneC_sub (List.mem_of_getElem? (i := 18) rfl))
    (f := .block 0#3 e [.f8 imm]) rfl (slotMatches_block _ _ _)))
theorem mov_C7_0 (e : Rm) (imm : Field) : Statement (.mov_C7_0 e imm) :=
  .inr (.inr (namedRow_of_maker (rowsOneC_sub (List.mem_of_getElem? (i := 19) rfl))
    (f := .block 0#3 e [imm]) rfl (slotMatches_block _ _ _)))
theorem enter_C8 (size : BitVec 16) (level : BitVec 8) : Statement (.enter_C8 size level) :=
  .inr (.inr (namedRow_of_maker (rowsOneC_sub (List.mem_of_getElem? (i := 20) rfl))
    (f := .plain [.f16 size, .f8 level]) rfl (slotMatches_none _)))
theorem leave_C9 : Statement (.leave_C9) :=
  .inr (.inr (namedRow_of_maker (rowsOneC_sub (List.mem_of_getElem? (i := 21) rfl))
    (f := .plain []) rfl (slotMatches_none _)))
theorem retf_CA (imm : BitVec 16) : Statement (.retf_CA imm) :=
  .inr (.inr (namedRow_of_maker (rowsOneC_sub (List.mem_of_getElem? (i := 22) rfl))
    (f := .plain [.f16 imm]) rfl (slotMatches_none _)))
theorem retf_CB : Statement (.retf_CB) :=
  .inr (.inr (namedRow_of_maker (rowsOneC_sub (List.mem_of_getElem? (i := 23) rfl))
    (f := .plain []) rfl (slotMatches_none _)))
theorem int3_CC : Statement (.int3_CC) :=
  .inr (.inr (namedRow_of_maker (rowsOneC_sub (List.mem_of_getElem? (i := 24) rfl))
    (f := .plain []) rfl (slotMatches_none _)))
theorem int_CD (imm : BitVec 8) : Statement (.int_CD imm) :=
  .inr (.inr (namedRow_of_maker (rowsOneC_sub (List.mem_of_getElem? (i := 25) rfl))
    (f := .plain [.f8 imm]) rfl (slotMatches_none _)))
theorem into_CE : Statement (.into_CE) :=
  .inr (.inr (namedRow_of_maker (rowsOneC_sub (List.mem_of_getElem? (i := 26) rfl))
    (f := .plain []) rfl (slotMatches_none _)))
theorem iret_CF : Statement (.iret_CF) :=
  .inr (.inr (namedRow_of_maker (rowsOneC_sub (List.mem_of_getElem? (i := 27) rfl))
    (f := .plain []) rfl (slotMatches_none _)))
theorem rol_D0_0 (e : Rm) : Statement (.rol_D0_0 e) :=
  .inr (.inr (namedRow_of_maker (rowsOneD_sub (List.mem_of_getElem? (i := 0) rfl))
    (f := .block 0#3 e []) rfl (slotMatches_block _ _ _)))
theorem ror_D0_1 (e : Rm) : Statement (.ror_D0_1 e) :=
  .inr (.inr (namedRow_of_maker (rowsOneD_sub (List.mem_of_getElem? (i := 1) rfl))
    (f := .block 1#3 e []) rfl (slotMatches_block _ _ _)))
theorem rcl_D0_2 (e : Rm) : Statement (.rcl_D0_2 e) :=
  .inr (.inr (namedRow_of_maker (rowsOneD_sub (List.mem_of_getElem? (i := 2) rfl))
    (f := .block 2#3 e []) rfl (slotMatches_block _ _ _)))
theorem rcr_D0_3 (e : Rm) : Statement (.rcr_D0_3 e) :=
  .inr (.inr (namedRow_of_maker (rowsOneD_sub (List.mem_of_getElem? (i := 3) rfl))
    (f := .block 3#3 e []) rfl (slotMatches_block _ _ _)))
theorem shl_D0_4 (e : Rm) : Statement (.shl_D0_4 e) :=
  .inr (.inr (namedRow_of_maker (rowsOneD_sub (List.mem_of_getElem? (i := 4) rfl))
    (f := .block 4#3 e []) rfl (slotMatches_block _ _ _)))
theorem shr_D0_5 (e : Rm) : Statement (.shr_D0_5 e) :=
  .inr (.inr (namedRow_of_maker (rowsOneD_sub (List.mem_of_getElem? (i := 5) rfl))
    (f := .block 5#3 e []) rfl (slotMatches_block _ _ _)))
theorem sar_D0_7 (e : Rm) : Statement (.sar_D0_7 e) :=
  .inr (.inr (namedRow_of_maker (rowsOneD_sub (List.mem_of_getElem? (i := 6) rfl))
    (f := .block 7#3 e []) rfl (slotMatches_block _ _ _)))
theorem rol_D1_0 (e : Rm) : Statement (.rol_D1_0 e) :=
  .inr (.inr (namedRow_of_maker (rowsOneD_sub (List.mem_of_getElem? (i := 7) rfl))
    (f := .block 0#3 e []) rfl (slotMatches_block _ _ _)))
theorem ror_D1_1 (e : Rm) : Statement (.ror_D1_1 e) :=
  .inr (.inr (namedRow_of_maker (rowsOneD_sub (List.mem_of_getElem? (i := 8) rfl))
    (f := .block 1#3 e []) rfl (slotMatches_block _ _ _)))
theorem rcl_D1_2 (e : Rm) : Statement (.rcl_D1_2 e) :=
  .inr (.inr (namedRow_of_maker (rowsOneD_sub (List.mem_of_getElem? (i := 9) rfl))
    (f := .block 2#3 e []) rfl (slotMatches_block _ _ _)))
theorem rcr_D1_3 (e : Rm) : Statement (.rcr_D1_3 e) :=
  .inr (.inr (namedRow_of_maker (rowsOneD_sub (List.mem_of_getElem? (i := 10) rfl))
    (f := .block 3#3 e []) rfl (slotMatches_block _ _ _)))
theorem shl_D1_4 (e : Rm) : Statement (.shl_D1_4 e) :=
  .inr (.inr (namedRow_of_maker (rowsOneD_sub (List.mem_of_getElem? (i := 11) rfl))
    (f := .block 4#3 e []) rfl (slotMatches_block _ _ _)))
theorem shr_D1_5 (e : Rm) : Statement (.shr_D1_5 e) :=
  .inr (.inr (namedRow_of_maker (rowsOneD_sub (List.mem_of_getElem? (i := 12) rfl))
    (f := .block 5#3 e []) rfl (slotMatches_block _ _ _)))
theorem sar_D1_7 (e : Rm) : Statement (.sar_D1_7 e) :=
  .inr (.inr (namedRow_of_maker (rowsOneD_sub (List.mem_of_getElem? (i := 13) rfl))
    (f := .block 7#3 e []) rfl (slotMatches_block _ _ _)))
theorem rol_D2_0 (e : Rm) : Statement (.rol_D2_0 e) :=
  .inr (.inr (namedRow_of_maker (rowsOneD_sub (List.mem_of_getElem? (i := 14) rfl))
    (f := .block 0#3 e []) rfl (slotMatches_block _ _ _)))
theorem ror_D2_1 (e : Rm) : Statement (.ror_D2_1 e) :=
  .inr (.inr (namedRow_of_maker (rowsOneD_sub (List.mem_of_getElem? (i := 15) rfl))
    (f := .block 1#3 e []) rfl (slotMatches_block _ _ _)))
theorem rcl_D2_2 (e : Rm) : Statement (.rcl_D2_2 e) :=
  .inr (.inr (namedRow_of_maker (rowsOneD_sub (List.mem_of_getElem? (i := 16) rfl))
    (f := .block 2#3 e []) rfl (slotMatches_block _ _ _)))
theorem rcr_D2_3 (e : Rm) : Statement (.rcr_D2_3 e) :=
  .inr (.inr (namedRow_of_maker (rowsOneD_sub (List.mem_of_getElem? (i := 17) rfl))
    (f := .block 3#3 e []) rfl (slotMatches_block _ _ _)))
theorem shl_D2_4 (e : Rm) : Statement (.shl_D2_4 e) :=
  .inr (.inr (namedRow_of_maker (rowsOneD_sub (List.mem_of_getElem? (i := 18) rfl))
    (f := .block 4#3 e []) rfl (slotMatches_block _ _ _)))
theorem shr_D2_5 (e : Rm) : Statement (.shr_D2_5 e) :=
  .inr (.inr (namedRow_of_maker (rowsOneD_sub (List.mem_of_getElem? (i := 19) rfl))
    (f := .block 5#3 e []) rfl (slotMatches_block _ _ _)))
theorem sar_D2_7 (e : Rm) : Statement (.sar_D2_7 e) :=
  .inr (.inr (namedRow_of_maker (rowsOneD_sub (List.mem_of_getElem? (i := 20) rfl))
    (f := .block 7#3 e []) rfl (slotMatches_block _ _ _)))
theorem rol_D3_0 (e : Rm) : Statement (.rol_D3_0 e) :=
  .inr (.inr (namedRow_of_maker (rowsOneD_sub (List.mem_of_getElem? (i := 21) rfl))
    (f := .block 0#3 e []) rfl (slotMatches_block _ _ _)))
theorem ror_D3_1 (e : Rm) : Statement (.ror_D3_1 e) :=
  .inr (.inr (namedRow_of_maker (rowsOneD_sub (List.mem_of_getElem? (i := 22) rfl))
    (f := .block 1#3 e []) rfl (slotMatches_block _ _ _)))
theorem rcl_D3_2 (e : Rm) : Statement (.rcl_D3_2 e) :=
  .inr (.inr (namedRow_of_maker (rowsOneD_sub (List.mem_of_getElem? (i := 23) rfl))
    (f := .block 2#3 e []) rfl (slotMatches_block _ _ _)))
theorem rcr_D3_3 (e : Rm) : Statement (.rcr_D3_3 e) :=
  .inr (.inr (namedRow_of_maker (rowsOneD_sub (List.mem_of_getElem? (i := 24) rfl))
    (f := .block 3#3 e []) rfl (slotMatches_block _ _ _)))
theorem shl_D3_4 (e : Rm) : Statement (.shl_D3_4 e) :=
  .inr (.inr (namedRow_of_maker (rowsOneD_sub (List.mem_of_getElem? (i := 25) rfl))
    (f := .block 4#3 e []) rfl (slotMatches_block _ _ _)))
theorem shr_D3_5 (e : Rm) : Statement (.shr_D3_5 e) :=
  .inr (.inr (namedRow_of_maker (rowsOneD_sub (List.mem_of_getElem? (i := 26) rfl))
    (f := .block 5#3 e []) rfl (slotMatches_block _ _ _)))
theorem sar_D3_7 (e : Rm) : Statement (.sar_D3_7 e) :=
  .inr (.inr (namedRow_of_maker (rowsOneD_sub (List.mem_of_getElem? (i := 27) rfl))
    (f := .block 7#3 e []) rfl (slotMatches_block _ _ _)))
theorem aam_D4 (imm : BitVec 8) : Statement (.aam_D4 imm) :=
  .inr (.inr (namedRow_of_maker (rowsOneD_sub (List.mem_of_getElem? (i := 28) rfl))
    (f := .plain [.f8 imm]) rfl (slotMatches_none _)))
theorem aad_D5 (imm : BitVec 8) : Statement (.aad_D5 imm) :=
  .inr (.inr (namedRow_of_maker (rowsOneD_sub (List.mem_of_getElem? (i := 29) rfl))
    (f := .plain [.f8 imm]) rfl (slotMatches_none _)))
theorem xlat_D7 : Statement (.xlat_D7) :=
  .inr (.inr (namedRow_of_maker (rowsOneD_sub (List.mem_of_getElem? (i := 30) rfl))
    (f := .plain []) rfl (slotMatches_none _)))
theorem esc_D8 : ∀ (r : BitVec 3), Statement (.esc_D8 r) :=
  forall_bitVec3 (.inr (.inr (namedRow_of_maker (rowsOneD_sub (List.mem_of_getElem? (i := 31) rfl))
    (f := .plain []) rfl (slotMatches_none _))))
    (.inr (.inr (namedRow_of_maker (rowsOneD_sub (List.mem_of_getElem? (i := 32) rfl))
    (f := .plain []) rfl (slotMatches_none _))))
    (.inr (.inr (namedRow_of_maker (rowsOneD_sub (List.mem_of_getElem? (i := 33) rfl))
    (f := .plain []) rfl (slotMatches_none _))))
    (.inr (.inr (namedRow_of_maker (rowsOneD_sub (List.mem_of_getElem? (i := 34) rfl))
    (f := .plain []) rfl (slotMatches_none _))))
    (.inr (.inr (namedRow_of_maker (rowsOneD_sub (List.mem_of_getElem? (i := 35) rfl))
    (f := .plain []) rfl (slotMatches_none _))))
    (.inr (.inr (namedRow_of_maker (rowsOneD_sub (List.mem_of_getElem? (i := 36) rfl))
    (f := .plain []) rfl (slotMatches_none _))))
    (.inr (.inr (namedRow_of_maker (rowsOneD_sub (List.mem_of_getElem? (i := 37) rfl))
    (f := .plain []) rfl (slotMatches_none _))))
    (.inr (.inr (namedRow_of_maker (rowsOneD_sub (List.mem_of_getElem? (i := 38) rfl))
    (f := .plain []) rfl (slotMatches_none _))))
theorem loopne_E0 (rel : BitVec 8) : Statement (.loopne_E0 rel) :=
  .inr (.inr (namedRow_of_maker (rowsOneE_sub (List.mem_of_getElem? (i := 0) rfl))
    (f := .plain [.f8 rel]) rfl (slotMatches_none _)))
theorem loope_E1 (rel : BitVec 8) : Statement (.loope_E1 rel) :=
  .inr (.inr (namedRow_of_maker (rowsOneE_sub (List.mem_of_getElem? (i := 1) rfl))
    (f := .plain [.f8 rel]) rfl (slotMatches_none _)))
theorem loop_E2 (rel : BitVec 8) : Statement (.loop_E2 rel) :=
  .inr (.inr (namedRow_of_maker (rowsOneE_sub (List.mem_of_getElem? (i := 2) rfl))
    (f := .plain [.f8 rel]) rfl (slotMatches_none _)))
theorem jcxz_E3 (rel : BitVec 8) : Statement (.jcxz_E3 rel) :=
  .inr (.inr (namedRow_of_maker (rowsOneE_sub (List.mem_of_getElem? (i := 3) rfl))
    (f := .plain [.f8 rel]) rfl (slotMatches_none _)))
theorem in_E4 (imm : BitVec 8) : Statement (.in_E4 imm) :=
  .inr (.inr (namedRow_of_maker (rowsOneE_sub (List.mem_of_getElem? (i := 4) rfl))
    (f := .plain [.f8 imm]) rfl (slotMatches_none _)))
theorem in_E5 (imm : BitVec 8) : Statement (.in_E5 imm) :=
  .inr (.inr (namedRow_of_maker (rowsOneE_sub (List.mem_of_getElem? (i := 5) rfl))
    (f := .plain [.f8 imm]) rfl (slotMatches_none _)))
theorem out_E6 (imm : BitVec 8) : Statement (.out_E6 imm) :=
  .inr (.inr (namedRow_of_maker (rowsOneE_sub (List.mem_of_getElem? (i := 6) rfl))
    (f := .plain [.f8 imm]) rfl (slotMatches_none _)))
theorem out_E7 (imm : BitVec 8) : Statement (.out_E7 imm) :=
  .inr (.inr (namedRow_of_maker (rowsOneE_sub (List.mem_of_getElem? (i := 7) rfl))
    (f := .plain [.f8 imm]) rfl (slotMatches_none _)))
theorem call_E8 (rel : Field) : Statement (.call_E8 rel) :=
  .inr (.inr (namedRow_of_maker (rowsOneE_sub (List.mem_of_getElem? (i := 8) rfl))
    (f := .plain [rel]) rfl (slotMatches_none _)))
theorem jmp_E9 (rel : Field) : Statement (.jmp_E9 rel) :=
  .inr (.inr (namedRow_of_maker (rowsOneE_sub (List.mem_of_getElem? (i := 9) rfl))
    (f := .plain [rel]) rfl (slotMatches_none _)))
theorem jmpf_EA (off : Field) (sel : BitVec 16) : Statement (.jmpf_EA off sel) :=
  .inr (.inr (namedRow_of_maker (rowsOneE_sub (List.mem_of_getElem? (i := 10) rfl))
    (f := .plain [off, .f16 sel]) rfl (slotMatches_none _)))
theorem jmp_EB (rel : BitVec 8) : Statement (.jmp_EB rel) :=
  .inr (.inr (namedRow_of_maker (rowsOneE_sub (List.mem_of_getElem? (i := 11) rfl))
    (f := .plain [.f8 rel]) rfl (slotMatches_none _)))
theorem in_EC : Statement (.in_EC) :=
  .inr (.inr (namedRow_of_maker (rowsOneE_sub (List.mem_of_getElem? (i := 12) rfl))
    (f := .plain []) rfl (slotMatches_none _)))
theorem in_ED : Statement (.in_ED) :=
  .inr (.inr (namedRow_of_maker (rowsOneE_sub (List.mem_of_getElem? (i := 13) rfl))
    (f := .plain []) rfl (slotMatches_none _)))
theorem out_EE : Statement (.out_EE) :=
  .inr (.inr (namedRow_of_maker (rowsOneE_sub (List.mem_of_getElem? (i := 14) rfl))
    (f := .plain []) rfl (slotMatches_none _)))
theorem out_EF : Statement (.out_EF) :=
  .inr (.inr (namedRow_of_maker (rowsOneE_sub (List.mem_of_getElem? (i := 15) rfl))
    (f := .plain []) rfl (slotMatches_none _)))
theorem hlt_F4 : Statement (.hlt_F4) :=
  .inr (.inr (namedRow_of_maker (rowsOneF_sub (List.mem_of_getElem? (i := 0) rfl))
    (f := .plain []) rfl (slotMatches_none _)))
theorem cmc_F5 : Statement (.cmc_F5) :=
  .inr (.inr (namedRow_of_maker (rowsOneF_sub (List.mem_of_getElem? (i := 1) rfl))
    (f := .plain []) rfl (slotMatches_none _)))
theorem test_F6_0 (e : Rm) (imm : BitVec 8) : Statement (.test_F6_0 e imm) :=
  .inr (.inr (namedRow_of_maker (rowsOneF_sub (List.mem_of_getElem? (i := 2) rfl))
    (f := .block 0#3 e [.f8 imm]) rfl (slotMatches_block _ _ _)))
theorem not_F6_2 (e : Rm) : Statement (.not_F6_2 e) :=
  .inr (.inr (namedRow_of_maker (rowsOneF_sub (List.mem_of_getElem? (i := 3) rfl))
    (f := .block 2#3 e []) rfl (slotMatches_block _ _ _)))
theorem neg_F6_3 (e : Rm) : Statement (.neg_F6_3 e) :=
  .inr (.inr (namedRow_of_maker (rowsOneF_sub (List.mem_of_getElem? (i := 4) rfl))
    (f := .block 3#3 e []) rfl (slotMatches_block _ _ _)))
theorem mul_F6_4 (e : Rm) : Statement (.mul_F6_4 e) :=
  .inr (.inr (namedRow_of_maker (rowsOneF_sub (List.mem_of_getElem? (i := 5) rfl))
    (f := .block 4#3 e []) rfl (slotMatches_block _ _ _)))
theorem imul_F6_5 (e : Rm) : Statement (.imul_F6_5 e) :=
  .inr (.inr (namedRow_of_maker (rowsOneF_sub (List.mem_of_getElem? (i := 6) rfl))
    (f := .block 5#3 e []) rfl (slotMatches_block _ _ _)))
theorem div_F6_6 (e : Rm) : Statement (.div_F6_6 e) :=
  .inr (.inr (namedRow_of_maker (rowsOneF_sub (List.mem_of_getElem? (i := 7) rfl))
    (f := .block 6#3 e []) rfl (slotMatches_block _ _ _)))
theorem idiv_F6_7 (e : Rm) : Statement (.idiv_F6_7 e) :=
  .inr (.inr (namedRow_of_maker (rowsOneF_sub (List.mem_of_getElem? (i := 8) rfl))
    (f := .block 7#3 e []) rfl (slotMatches_block _ _ _)))
theorem test_F7_0 (e : Rm) (imm : Field) : Statement (.test_F7_0 e imm) :=
  .inr (.inr (namedRow_of_maker (rowsOneF_sub (List.mem_of_getElem? (i := 9) rfl))
    (f := .block 0#3 e [imm]) rfl (slotMatches_block _ _ _)))
theorem not_F7_2 (e : Rm) : Statement (.not_F7_2 e) :=
  .inr (.inr (namedRow_of_maker (rowsOneF_sub (List.mem_of_getElem? (i := 10) rfl))
    (f := .block 2#3 e []) rfl (slotMatches_block _ _ _)))
theorem neg_F7_3 (e : Rm) : Statement (.neg_F7_3 e) :=
  .inr (.inr (namedRow_of_maker (rowsOneF_sub (List.mem_of_getElem? (i := 11) rfl))
    (f := .block 3#3 e []) rfl (slotMatches_block _ _ _)))
theorem mul_F7_4 (e : Rm) : Statement (.mul_F7_4 e) :=
  .inr (.inr (namedRow_of_maker (rowsOneF_sub (List.mem_of_getElem? (i := 12) rfl))
    (f := .block 4#3 e []) rfl (slotMatches_block _ _ _)))
theorem imul_F7_5 (e : Rm) : Statement (.imul_F7_5 e) :=
  .inr (.inr (namedRow_of_maker (rowsOneF_sub (List.mem_of_getElem? (i := 13) rfl))
    (f := .block 5#3 e []) rfl (slotMatches_block _ _ _)))
theorem div_F7_6 (e : Rm) : Statement (.div_F7_6 e) :=
  .inr (.inr (namedRow_of_maker (rowsOneF_sub (List.mem_of_getElem? (i := 14) rfl))
    (f := .block 6#3 e []) rfl (slotMatches_block _ _ _)))
theorem idiv_F7_7 (e : Rm) : Statement (.idiv_F7_7 e) :=
  .inr (.inr (namedRow_of_maker (rowsOneF_sub (List.mem_of_getElem? (i := 15) rfl))
    (f := .block 7#3 e []) rfl (slotMatches_block _ _ _)))
theorem clc_F8 : Statement (.clc_F8) :=
  .inr (.inr (namedRow_of_maker (rowsOneF_sub (List.mem_of_getElem? (i := 16) rfl))
    (f := .plain []) rfl (slotMatches_none _)))
theorem stc_F9 : Statement (.stc_F9) :=
  .inr (.inr (namedRow_of_maker (rowsOneF_sub (List.mem_of_getElem? (i := 17) rfl))
    (f := .plain []) rfl (slotMatches_none _)))
theorem cli_FA : Statement (.cli_FA) :=
  .inr (.inr (namedRow_of_maker (rowsOneF_sub (List.mem_of_getElem? (i := 18) rfl))
    (f := .plain []) rfl (slotMatches_none _)))
theorem sti_FB : Statement (.sti_FB) :=
  .inr (.inr (namedRow_of_maker (rowsOneF_sub (List.mem_of_getElem? (i := 19) rfl))
    (f := .plain []) rfl (slotMatches_none _)))
theorem cld_FC : Statement (.cld_FC) :=
  .inr (.inr (namedRow_of_maker (rowsOneF_sub (List.mem_of_getElem? (i := 20) rfl))
    (f := .plain []) rfl (slotMatches_none _)))
theorem std_FD : Statement (.std_FD) :=
  .inr (.inr (namedRow_of_maker (rowsOneF_sub (List.mem_of_getElem? (i := 21) rfl))
    (f := .plain []) rfl (slotMatches_none _)))
theorem inc_FE_0 (e : Rm) : Statement (.inc_FE_0 e) :=
  .inr (.inr (namedRow_of_maker (rowsOneF_sub (List.mem_of_getElem? (i := 22) rfl))
    (f := .block 0#3 e []) rfl (slotMatches_block _ _ _)))
theorem dec_FE_1 (e : Rm) : Statement (.dec_FE_1 e) :=
  .inr (.inr (namedRow_of_maker (rowsOneF_sub (List.mem_of_getElem? (i := 23) rfl))
    (f := .block 1#3 e []) rfl (slotMatches_block _ _ _)))
theorem inc_FF_0 (e : Rm) : Statement (.inc_FF_0 e) :=
  .inr (.inr (namedRow_of_maker (rowsOneF_sub (List.mem_of_getElem? (i := 24) rfl))
    (f := .block 0#3 e []) rfl (slotMatches_block _ _ _)))
theorem dec_FF_1 (e : Rm) : Statement (.dec_FF_1 e) :=
  .inr (.inr (namedRow_of_maker (rowsOneF_sub (List.mem_of_getElem? (i := 25) rfl))
    (f := .block 1#3 e []) rfl (slotMatches_block _ _ _)))
theorem call_FF_2 (e : Rm) : Statement (.call_FF_2 e) :=
  .inr (.inr (namedRow_of_maker (rowsOneF_sub (List.mem_of_getElem? (i := 26) rfl))
    (f := .block 2#3 e []) rfl (slotMatches_block _ _ _)))
theorem callf_FF_3 (e : Rm) : Statement (.callf_FF_3 e) :=
  .inr (.inr (namedRow_of_maker (rowsOneF_sub (List.mem_of_getElem? (i := 27) rfl))
    (f := .block 3#3 e []) rfl (slotMatches_block _ _ _)))
theorem jmp_FF_4 (e : Rm) : Statement (.jmp_FF_4 e) :=
  .inr (.inr (namedRow_of_maker (rowsOneF_sub (List.mem_of_getElem? (i := 28) rfl))
    (f := .block 4#3 e []) rfl (slotMatches_block _ _ _)))
theorem jmpf_FF_5 (e : Rm) : Statement (.jmpf_FF_5 e) :=
  .inr (.inr (namedRow_of_maker (rowsOneF_sub (List.mem_of_getElem? (i := 29) rfl))
    (f := .block 5#3 e []) rfl (slotMatches_block _ _ _)))
theorem push_FF_6 (e : Rm) : Statement (.push_FF_6 e) :=
  .inr (.inr (namedRow_of_maker (rowsOneF_sub (List.mem_of_getElem? (i := 30) rfl))
    (f := .block 6#3 e []) rfl (slotMatches_block _ _ _)))
theorem sldt_0F00_0 (e : Rm) : Statement (.sldt_0F00_0 e) :=
  .inr (.inr (namedRow_of_maker (rowsTwo0_sub (List.mem_of_getElem? (i := 0) rfl))
    (f := .block 0#3 e []) rfl (slotMatches_block _ _ _)))
theorem str_0F00_1 (e : Rm) : Statement (.str_0F00_1 e) :=
  .inr (.inr (namedRow_of_maker (rowsTwo0_sub (List.mem_of_getElem? (i := 1) rfl))
    (f := .block 1#3 e []) rfl (slotMatches_block _ _ _)))
theorem lldt_0F00_2 (e : Rm) : Statement (.lldt_0F00_2 e) :=
  .inr (.inr (namedRow_of_maker (rowsTwo0_sub (List.mem_of_getElem? (i := 2) rfl))
    (f := .block 2#3 e []) rfl (slotMatches_block _ _ _)))
theorem ltr_0F00_3 (e : Rm) : Statement (.ltr_0F00_3 e) :=
  .inr (.inr (namedRow_of_maker (rowsTwo0_sub (List.mem_of_getElem? (i := 3) rfl))
    (f := .block 3#3 e []) rfl (slotMatches_block _ _ _)))
theorem verr_0F00_4 (e : Rm) : Statement (.verr_0F00_4 e) :=
  .inr (.inr (namedRow_of_maker (rowsTwo0_sub (List.mem_of_getElem? (i := 4) rfl))
    (f := .block 4#3 e []) rfl (slotMatches_block _ _ _)))
theorem verw_0F00_5 (e : Rm) : Statement (.verw_0F00_5 e) :=
  .inr (.inr (namedRow_of_maker (rowsTwo0_sub (List.mem_of_getElem? (i := 5) rfl))
    (f := .block 5#3 e []) rfl (slotMatches_block _ _ _)))
theorem sgdt_0F01_0 (e : Rm) : Statement (.sgdt_0F01_0 e) :=
  .inr (.inr (namedRow_of_maker (rowsTwo0_sub (List.mem_of_getElem? (i := 6) rfl))
    (f := .block 0#3 e []) rfl (slotMatches_block _ _ _)))
theorem sidt_0F01_1 (e : Rm) : Statement (.sidt_0F01_1 e) :=
  .inr (.inr (namedRow_of_maker (rowsTwo0_sub (List.mem_of_getElem? (i := 7) rfl))
    (f := .block 1#3 e []) rfl (slotMatches_block _ _ _)))
theorem lgdt_0F01_2 (e : Rm) : Statement (.lgdt_0F01_2 e) :=
  .inr (.inr (namedRow_of_maker (rowsTwo0_sub (List.mem_of_getElem? (i := 8) rfl))
    (f := .block 2#3 e []) rfl (slotMatches_block _ _ _)))
theorem lidt_0F01_3 (e : Rm) : Statement (.lidt_0F01_3 e) :=
  .inr (.inr (namedRow_of_maker (rowsTwo0_sub (List.mem_of_getElem? (i := 9) rfl))
    (f := .block 3#3 e []) rfl (slotMatches_block _ _ _)))
theorem smsw_0F01_4 (e : Rm) : Statement (.smsw_0F01_4 e) :=
  .inr (.inr (namedRow_of_maker (rowsTwo0_sub (List.mem_of_getElem? (i := 10) rfl))
    (f := .block 4#3 e []) rfl (slotMatches_block _ _ _)))
theorem lmsw_0F01_6 (e : Rm) : Statement (.lmsw_0F01_6 e) :=
  .inr (.inr (namedRow_of_maker (rowsTwo0_sub (List.mem_of_getElem? (i := 11) rfl))
    (f := .block 6#3 e []) rfl (slotMatches_block _ _ _)))
theorem lar_0F02 (reg : BitVec 3) (e : Rm) : Statement (.lar_0F02 reg e) :=
  .inr (.inr (namedRow_of_maker (rowsTwo0_sub (List.mem_of_getElem? (i := 12) rfl))
    (f := .block reg e []) rfl (slotMatches_none _)))
theorem lsl_0F03 (reg : BitVec 3) (e : Rm) : Statement (.lsl_0F03 reg e) :=
  .inr (.inr (namedRow_of_maker (rowsTwo0_sub (List.mem_of_getElem? (i := 13) rfl))
    (f := .block reg e []) rfl (slotMatches_none _)))
theorem clts_0F06 : Statement (.clts_0F06) :=
  .inr (.inr (namedRow_of_maker (rowsTwo0_sub (List.mem_of_getElem? (i := 14) rfl))
    (f := .plain []) rfl (slotMatches_none _)))
theorem mov_0F20 (mod : BitVec 2) (reg : BitVec 3) (rm : BitVec 3) : Statement (.mov_0F20 mod reg rm) :=
  .inr (.inr (namedRow_of_maker (rowsTwo2_sub (List.mem_of_getElem? (i := 0) rfl))
    (f := .lone mod reg rm) rfl (slotMatches_none _)))
theorem mov_0F21 (mod : BitVec 2) (reg : BitVec 3) (rm : BitVec 3) : Statement (.mov_0F21 mod reg rm) :=
  .inr (.inr (namedRow_of_maker (rowsTwo2_sub (List.mem_of_getElem? (i := 1) rfl))
    (f := .lone mod reg rm) rfl (slotMatches_none _)))
theorem mov_0F22 (mod : BitVec 2) (reg : BitVec 3) (rm : BitVec 3) : Statement (.mov_0F22 mod reg rm) :=
  .inr (.inr (namedRow_of_maker (rowsTwo2_sub (List.mem_of_getElem? (i := 2) rfl))
    (f := .lone mod reg rm) rfl (slotMatches_none _)))
theorem mov_0F23 (mod : BitVec 2) (reg : BitVec 3) (rm : BitVec 3) : Statement (.mov_0F23 mod reg rm) :=
  .inr (.inr (namedRow_of_maker (rowsTwo2_sub (List.mem_of_getElem? (i := 3) rfl))
    (f := .lone mod reg rm) rfl (slotMatches_none _)))
theorem mov_0F24 (mod : BitVec 2) (reg : BitVec 3) (rm : BitVec 3) : Statement (.mov_0F24 mod reg rm) :=
  .inr (.inr (namedRow_of_maker (rowsTwo2_sub (List.mem_of_getElem? (i := 4) rfl))
    (f := .lone mod reg rm) rfl (slotMatches_none _)))
theorem mov_0F26 (mod : BitVec 2) (reg : BitVec 3) (rm : BitVec 3) : Statement (.mov_0F26 mod reg rm) :=
  .inr (.inr (namedRow_of_maker (rowsTwo2_sub (List.mem_of_getElem? (i := 5) rfl))
    (f := .lone mod reg rm) rfl (slotMatches_none _)))
theorem jo_0F80 (rel : Field) : Statement (.jo_0F80 rel) :=
  .inr (.inr (namedRow_of_maker (rowsTwo8_sub (List.mem_of_getElem? (i := 0) rfl))
    (f := .plain [rel]) rfl (slotMatches_none _)))
theorem jno_0F81 (rel : Field) : Statement (.jno_0F81 rel) :=
  .inr (.inr (namedRow_of_maker (rowsTwo8_sub (List.mem_of_getElem? (i := 1) rfl))
    (f := .plain [rel]) rfl (slotMatches_none _)))
theorem jb_0F82 (rel : Field) : Statement (.jb_0F82 rel) :=
  .inr (.inr (namedRow_of_maker (rowsTwo8_sub (List.mem_of_getElem? (i := 2) rfl))
    (f := .plain [rel]) rfl (slotMatches_none _)))
theorem jnb_0F83 (rel : Field) : Statement (.jnb_0F83 rel) :=
  .inr (.inr (namedRow_of_maker (rowsTwo8_sub (List.mem_of_getElem? (i := 3) rfl))
    (f := .plain [rel]) rfl (slotMatches_none _)))
theorem jz_0F84 (rel : Field) : Statement (.jz_0F84 rel) :=
  .inr (.inr (namedRow_of_maker (rowsTwo8_sub (List.mem_of_getElem? (i := 4) rfl))
    (f := .plain [rel]) rfl (slotMatches_none _)))
theorem jnz_0F85 (rel : Field) : Statement (.jnz_0F85 rel) :=
  .inr (.inr (namedRow_of_maker (rowsTwo8_sub (List.mem_of_getElem? (i := 5) rfl))
    (f := .plain [rel]) rfl (slotMatches_none _)))
theorem jbe_0F86 (rel : Field) : Statement (.jbe_0F86 rel) :=
  .inr (.inr (namedRow_of_maker (rowsTwo8_sub (List.mem_of_getElem? (i := 6) rfl))
    (f := .plain [rel]) rfl (slotMatches_none _)))
theorem jnbe_0F87 (rel : Field) : Statement (.jnbe_0F87 rel) :=
  .inr (.inr (namedRow_of_maker (rowsTwo8_sub (List.mem_of_getElem? (i := 7) rfl))
    (f := .plain [rel]) rfl (slotMatches_none _)))
theorem js_0F88 (rel : Field) : Statement (.js_0F88 rel) :=
  .inr (.inr (namedRow_of_maker (rowsTwo8_sub (List.mem_of_getElem? (i := 8) rfl))
    (f := .plain [rel]) rfl (slotMatches_none _)))
theorem jns_0F89 (rel : Field) : Statement (.jns_0F89 rel) :=
  .inr (.inr (namedRow_of_maker (rowsTwo8_sub (List.mem_of_getElem? (i := 9) rfl))
    (f := .plain [rel]) rfl (slotMatches_none _)))
theorem jp_0F8A (rel : Field) : Statement (.jp_0F8A rel) :=
  .inr (.inr (namedRow_of_maker (rowsTwo8_sub (List.mem_of_getElem? (i := 10) rfl))
    (f := .plain [rel]) rfl (slotMatches_none _)))
theorem jnp_0F8B (rel : Field) : Statement (.jnp_0F8B rel) :=
  .inr (.inr (namedRow_of_maker (rowsTwo8_sub (List.mem_of_getElem? (i := 11) rfl))
    (f := .plain [rel]) rfl (slotMatches_none _)))
theorem jl_0F8C (rel : Field) : Statement (.jl_0F8C rel) :=
  .inr (.inr (namedRow_of_maker (rowsTwo8_sub (List.mem_of_getElem? (i := 12) rfl))
    (f := .plain [rel]) rfl (slotMatches_none _)))
theorem jnl_0F8D (rel : Field) : Statement (.jnl_0F8D rel) :=
  .inr (.inr (namedRow_of_maker (rowsTwo8_sub (List.mem_of_getElem? (i := 13) rfl))
    (f := .plain [rel]) rfl (slotMatches_none _)))
theorem jle_0F8E (rel : Field) : Statement (.jle_0F8E rel) :=
  .inr (.inr (namedRow_of_maker (rowsTwo8_sub (List.mem_of_getElem? (i := 14) rfl))
    (f := .plain [rel]) rfl (slotMatches_none _)))
theorem jnle_0F8F (rel : Field) : Statement (.jnle_0F8F rel) :=
  .inr (.inr (namedRow_of_maker (rowsTwo8_sub (List.mem_of_getElem? (i := 15) rfl))
    (f := .plain [rel]) rfl (slotMatches_none _)))
theorem seto_0F90 (reg : BitVec 3) (e : Rm) : Statement (.seto_0F90 reg e) :=
  .inr (.inr (namedRow_of_maker (rowsTwo9_sub (List.mem_of_getElem? (i := 0) rfl))
    (f := .block reg e []) rfl (slotMatches_none _)))
theorem setno_0F91 (reg : BitVec 3) (e : Rm) : Statement (.setno_0F91 reg e) :=
  .inr (.inr (namedRow_of_maker (rowsTwo9_sub (List.mem_of_getElem? (i := 1) rfl))
    (f := .block reg e []) rfl (slotMatches_none _)))
theorem setb_0F92 (reg : BitVec 3) (e : Rm) : Statement (.setb_0F92 reg e) :=
  .inr (.inr (namedRow_of_maker (rowsTwo9_sub (List.mem_of_getElem? (i := 2) rfl))
    (f := .block reg e []) rfl (slotMatches_none _)))
theorem setnb_0F93 (reg : BitVec 3) (e : Rm) : Statement (.setnb_0F93 reg e) :=
  .inr (.inr (namedRow_of_maker (rowsTwo9_sub (List.mem_of_getElem? (i := 3) rfl))
    (f := .block reg e []) rfl (slotMatches_none _)))
theorem setz_0F94 (reg : BitVec 3) (e : Rm) : Statement (.setz_0F94 reg e) :=
  .inr (.inr (namedRow_of_maker (rowsTwo9_sub (List.mem_of_getElem? (i := 4) rfl))
    (f := .block reg e []) rfl (slotMatches_none _)))
theorem setnz_0F95 (reg : BitVec 3) (e : Rm) : Statement (.setnz_0F95 reg e) :=
  .inr (.inr (namedRow_of_maker (rowsTwo9_sub (List.mem_of_getElem? (i := 5) rfl))
    (f := .block reg e []) rfl (slotMatches_none _)))
theorem setbe_0F96 (reg : BitVec 3) (e : Rm) : Statement (.setbe_0F96 reg e) :=
  .inr (.inr (namedRow_of_maker (rowsTwo9_sub (List.mem_of_getElem? (i := 6) rfl))
    (f := .block reg e []) rfl (slotMatches_none _)))
theorem setnbe_0F97 (reg : BitVec 3) (e : Rm) : Statement (.setnbe_0F97 reg e) :=
  .inr (.inr (namedRow_of_maker (rowsTwo9_sub (List.mem_of_getElem? (i := 7) rfl))
    (f := .block reg e []) rfl (slotMatches_none _)))
theorem sets_0F98 (reg : BitVec 3) (e : Rm) : Statement (.sets_0F98 reg e) :=
  .inr (.inr (namedRow_of_maker (rowsTwo9_sub (List.mem_of_getElem? (i := 8) rfl))
    (f := .block reg e []) rfl (slotMatches_none _)))
theorem setns_0F99 (reg : BitVec 3) (e : Rm) : Statement (.setns_0F99 reg e) :=
  .inr (.inr (namedRow_of_maker (rowsTwo9_sub (List.mem_of_getElem? (i := 9) rfl))
    (f := .block reg e []) rfl (slotMatches_none _)))
theorem setp_0F9A (reg : BitVec 3) (e : Rm) : Statement (.setp_0F9A reg e) :=
  .inr (.inr (namedRow_of_maker (rowsTwo9_sub (List.mem_of_getElem? (i := 10) rfl))
    (f := .block reg e []) rfl (slotMatches_none _)))
theorem setnp_0F9B (reg : BitVec 3) (e : Rm) : Statement (.setnp_0F9B reg e) :=
  .inr (.inr (namedRow_of_maker (rowsTwo9_sub (List.mem_of_getElem? (i := 11) rfl))
    (f := .block reg e []) rfl (slotMatches_none _)))
theorem setl_0F9C (reg : BitVec 3) (e : Rm) : Statement (.setl_0F9C reg e) :=
  .inr (.inr (namedRow_of_maker (rowsTwo9_sub (List.mem_of_getElem? (i := 12) rfl))
    (f := .block reg e []) rfl (slotMatches_none _)))
theorem setnl_0F9D (reg : BitVec 3) (e : Rm) : Statement (.setnl_0F9D reg e) :=
  .inr (.inr (namedRow_of_maker (rowsTwo9_sub (List.mem_of_getElem? (i := 13) rfl))
    (f := .block reg e []) rfl (slotMatches_none _)))
theorem setle_0F9E (reg : BitVec 3) (e : Rm) : Statement (.setle_0F9E reg e) :=
  .inr (.inr (namedRow_of_maker (rowsTwo9_sub (List.mem_of_getElem? (i := 14) rfl))
    (f := .block reg e []) rfl (slotMatches_none _)))
theorem setnle_0F9F (reg : BitVec 3) (e : Rm) : Statement (.setnle_0F9F reg e) :=
  .inr (.inr (namedRow_of_maker (rowsTwo9_sub (List.mem_of_getElem? (i := 15) rfl))
    (f := .block reg e []) rfl (slotMatches_none _)))
theorem push_0FA0 : Statement (.push_0FA0) :=
  .inr (.inr (namedRow_of_maker (rowsTwoA_sub (List.mem_of_getElem? (i := 0) rfl))
    (f := .plain []) rfl (slotMatches_none _)))
theorem pop_0FA1 : Statement (.pop_0FA1) :=
  .inr (.inr (namedRow_of_maker (rowsTwoA_sub (List.mem_of_getElem? (i := 1) rfl))
    (f := .plain []) rfl (slotMatches_none _)))
theorem bt_0FA3 (reg : BitVec 3) (e : Rm) : Statement (.bt_0FA3 reg e) :=
  .inr (.inr (namedRow_of_maker (rowsTwoA_sub (List.mem_of_getElem? (i := 2) rfl))
    (f := .block reg e []) rfl (slotMatches_none _)))
theorem shld_0FA4 (reg : BitVec 3) (e : Rm) (imm : BitVec 8) : Statement (.shld_0FA4 reg e imm) :=
  .inr (.inr (namedRow_of_maker (rowsTwoA_sub (List.mem_of_getElem? (i := 3) rfl))
    (f := .block reg e [.f8 imm]) rfl (slotMatches_none _)))
theorem shld_0FA5 (reg : BitVec 3) (e : Rm) : Statement (.shld_0FA5 reg e) :=
  .inr (.inr (namedRow_of_maker (rowsTwoA_sub (List.mem_of_getElem? (i := 4) rfl))
    (f := .block reg e []) rfl (slotMatches_none _)))
theorem push_0FA8 : Statement (.push_0FA8) :=
  .inr (.inr (namedRow_of_maker (rowsTwoA_sub (List.mem_of_getElem? (i := 5) rfl))
    (f := .plain []) rfl (slotMatches_none _)))
theorem pop_0FA9 : Statement (.pop_0FA9) :=
  .inr (.inr (namedRow_of_maker (rowsTwoA_sub (List.mem_of_getElem? (i := 6) rfl))
    (f := .plain []) rfl (slotMatches_none _)))
theorem bts_0FAB (reg : BitVec 3) (e : Rm) : Statement (.bts_0FAB reg e) :=
  .inr (.inr (namedRow_of_maker (rowsTwoA_sub (List.mem_of_getElem? (i := 7) rfl))
    (f := .block reg e []) rfl (slotMatches_none _)))
theorem shrd_0FAC (reg : BitVec 3) (e : Rm) (imm : BitVec 8) : Statement (.shrd_0FAC reg e imm) :=
  .inr (.inr (namedRow_of_maker (rowsTwoA_sub (List.mem_of_getElem? (i := 8) rfl))
    (f := .block reg e [.f8 imm]) rfl (slotMatches_none _)))
theorem shrd_0FAD (reg : BitVec 3) (e : Rm) : Statement (.shrd_0FAD reg e) :=
  .inr (.inr (namedRow_of_maker (rowsTwoA_sub (List.mem_of_getElem? (i := 9) rfl))
    (f := .block reg e []) rfl (slotMatches_none _)))
theorem imul_0FAF (reg : BitVec 3) (e : Rm) : Statement (.imul_0FAF reg e) :=
  .inr (.inr (namedRow_of_maker (rowsTwoA_sub (List.mem_of_getElem? (i := 10) rfl))
    (f := .block reg e []) rfl (slotMatches_none _)))
theorem lss_0FB2 (reg : BitVec 3) (e : Rm) : Statement (.lss_0FB2 reg e) :=
  .inr (.inr (namedRow_of_maker (rowsTwoB_sub (List.mem_of_getElem? (i := 0) rfl))
    (f := .block reg e []) rfl (slotMatches_none _)))
theorem btr_0FB3 (reg : BitVec 3) (e : Rm) : Statement (.btr_0FB3 reg e) :=
  .inr (.inr (namedRow_of_maker (rowsTwoB_sub (List.mem_of_getElem? (i := 1) rfl))
    (f := .block reg e []) rfl (slotMatches_none _)))
theorem lfs_0FB4 (reg : BitVec 3) (e : Rm) : Statement (.lfs_0FB4 reg e) :=
  .inr (.inr (namedRow_of_maker (rowsTwoB_sub (List.mem_of_getElem? (i := 2) rfl))
    (f := .block reg e []) rfl (slotMatches_none _)))
theorem lgs_0FB5 (reg : BitVec 3) (e : Rm) : Statement (.lgs_0FB5 reg e) :=
  .inr (.inr (namedRow_of_maker (rowsTwoB_sub (List.mem_of_getElem? (i := 3) rfl))
    (f := .block reg e []) rfl (slotMatches_none _)))
theorem movzx_0FB6 (reg : BitVec 3) (e : Rm) : Statement (.movzx_0FB6 reg e) :=
  .inr (.inr (namedRow_of_maker (rowsTwoB_sub (List.mem_of_getElem? (i := 4) rfl))
    (f := .block reg e []) rfl (slotMatches_none _)))
theorem movzx_0FB7 (reg : BitVec 3) (e : Rm) : Statement (.movzx_0FB7 reg e) :=
  .inr (.inr (namedRow_of_maker (rowsTwoB_sub (List.mem_of_getElem? (i := 5) rfl))
    (f := .block reg e []) rfl (slotMatches_none _)))
theorem bt_0FBA_4 (e : Rm) (imm : BitVec 8) : Statement (.bt_0FBA_4 e imm) :=
  .inr (.inr (namedRow_of_maker (rowsTwoB_sub (List.mem_of_getElem? (i := 6) rfl))
    (f := .block 4#3 e [.f8 imm]) rfl (slotMatches_block _ _ _)))
theorem bts_0FBA_5 (e : Rm) (imm : BitVec 8) : Statement (.bts_0FBA_5 e imm) :=
  .inr (.inr (namedRow_of_maker (rowsTwoB_sub (List.mem_of_getElem? (i := 7) rfl))
    (f := .block 5#3 e [.f8 imm]) rfl (slotMatches_block _ _ _)))
theorem btr_0FBA_6 (e : Rm) (imm : BitVec 8) : Statement (.btr_0FBA_6 e imm) :=
  .inr (.inr (namedRow_of_maker (rowsTwoB_sub (List.mem_of_getElem? (i := 8) rfl))
    (f := .block 6#3 e [.f8 imm]) rfl (slotMatches_block _ _ _)))
theorem btc_0FBA_7 (e : Rm) (imm : BitVec 8) : Statement (.btc_0FBA_7 e imm) :=
  .inr (.inr (namedRow_of_maker (rowsTwoB_sub (List.mem_of_getElem? (i := 9) rfl))
    (f := .block 7#3 e [.f8 imm]) rfl (slotMatches_block _ _ _)))
theorem btc_0FBB (reg : BitVec 3) (e : Rm) : Statement (.btc_0FBB reg e) :=
  .inr (.inr (namedRow_of_maker (rowsTwoB_sub (List.mem_of_getElem? (i := 10) rfl))
    (f := .block reg e []) rfl (slotMatches_none _)))
theorem bsf_0FBC (reg : BitVec 3) (e : Rm) : Statement (.bsf_0FBC reg e) :=
  .inr (.inr (namedRow_of_maker (rowsTwoB_sub (List.mem_of_getElem? (i := 11) rfl))
    (f := .block reg e []) rfl (slotMatches_none _)))
theorem bsr_0FBD (reg : BitVec 3) (e : Rm) : Statement (.bsr_0FBD reg e) :=
  .inr (.inr (namedRow_of_maker (rowsTwoB_sub (List.mem_of_getElem? (i := 12) rfl))
    (f := .block reg e []) rfl (slotMatches_none _)))
theorem movsx_0FBE (reg : BitVec 3) (e : Rm) : Statement (.movsx_0FBE reg e) :=
  .inr (.inr (namedRow_of_maker (rowsTwoB_sub (List.mem_of_getElem? (i := 13) rfl))
    (f := .block reg e []) rfl (slotMatches_none _)))
theorem movsx_0FBF (reg : BitVec 3) (e : Rm) : Statement (.movsx_0FBF reg e) :=
  .inr (.inr (namedRow_of_maker (rowsTwoB_sub (List.mem_of_getElem? (i := 14) rfl))
    (f := .block reg e []) rfl (slotMatches_none _)))
theorem unassignedOneByte (b : Byte) : Statement (.unassignedOneByte b) := by
  refine .inr (.inl ⟨_, rfl, fun a h => ?_⟩)
  change unassignedOne.contains b = true at h
  refine ⟨by simp only [unassignedRow?, h, if_true], ?_⟩
  have : ∀ b ∈ unassignedOne, defaultTable.find (.one b) = none := by decide +kernel
  exact this b (by simpa using h)
theorem unassignedTwoByte (b : Byte) : Statement (.unassignedTwoByte b) := by
  refine .inr (.inl ⟨_, rfl, fun a h => ?_⟩)
  change isUnassignedTwo b = true at h
  exact ⟨by simp only [unassignedRow?, h, if_true], find_unassignedTwo h⟩

end Laws.Named

/-- Every constructor. -/
theorem named (i : Instr) : Laws.Named.Statement i := by
  cases i with
  | prefixES => exact Laws.Named.prefixES
  | prefixCS => exact Laws.Named.prefixCS
  | prefixSS => exact Laws.Named.prefixSS
  | prefixDS => exact Laws.Named.prefixDS
  | prefixFS => exact Laws.Named.prefixFS
  | prefixGS => exact Laws.Named.prefixGS
  | prefixOPSIZE => exact Laws.Named.prefixOPSIZE
  | prefixADDRSIZE => exact Laws.Named.prefixADDRSIZE
  | prefixLOCK => exact Laws.Named.prefixLOCK
  | prefixREPNE => exact Laws.Named.prefixREPNE
  | prefixREP => exact Laws.Named.prefixREP
  | escape0F => exact Laws.Named.escape0F
  | add_00 reg e => exact Laws.Named.add_00 reg e
  | add_01 reg e => exact Laws.Named.add_01 reg e
  | add_02 reg e => exact Laws.Named.add_02 reg e
  | add_03 reg e => exact Laws.Named.add_03 reg e
  | add_04 imm => exact Laws.Named.add_04 imm
  | add_05 imm => exact Laws.Named.add_05 imm
  | push_06 => exact Laws.Named.push_06
  | pop_07 => exact Laws.Named.pop_07
  | or_08 reg e => exact Laws.Named.or_08 reg e
  | or_09 reg e => exact Laws.Named.or_09 reg e
  | or_0A reg e => exact Laws.Named.or_0A reg e
  | or_0B reg e => exact Laws.Named.or_0B reg e
  | or_0C imm => exact Laws.Named.or_0C imm
  | or_0D imm => exact Laws.Named.or_0D imm
  | push_0E => exact Laws.Named.push_0E
  | adc_10 reg e => exact Laws.Named.adc_10 reg e
  | adc_11 reg e => exact Laws.Named.adc_11 reg e
  | adc_12 reg e => exact Laws.Named.adc_12 reg e
  | adc_13 reg e => exact Laws.Named.adc_13 reg e
  | adc_14 imm => exact Laws.Named.adc_14 imm
  | adc_15 imm => exact Laws.Named.adc_15 imm
  | push_16 => exact Laws.Named.push_16
  | pop_17 => exact Laws.Named.pop_17
  | sbb_18 reg e => exact Laws.Named.sbb_18 reg e
  | sbb_19 reg e => exact Laws.Named.sbb_19 reg e
  | sbb_1A reg e => exact Laws.Named.sbb_1A reg e
  | sbb_1B reg e => exact Laws.Named.sbb_1B reg e
  | sbb_1C imm => exact Laws.Named.sbb_1C imm
  | sbb_1D imm => exact Laws.Named.sbb_1D imm
  | push_1E => exact Laws.Named.push_1E
  | pop_1F => exact Laws.Named.pop_1F
  | and_20 reg e => exact Laws.Named.and_20 reg e
  | and_21 reg e => exact Laws.Named.and_21 reg e
  | and_22 reg e => exact Laws.Named.and_22 reg e
  | and_23 reg e => exact Laws.Named.and_23 reg e
  | and_24 imm => exact Laws.Named.and_24 imm
  | and_25 imm => exact Laws.Named.and_25 imm
  | daa_27 => exact Laws.Named.daa_27
  | sub_28 reg e => exact Laws.Named.sub_28 reg e
  | sub_29 reg e => exact Laws.Named.sub_29 reg e
  | sub_2A reg e => exact Laws.Named.sub_2A reg e
  | sub_2B reg e => exact Laws.Named.sub_2B reg e
  | sub_2C imm => exact Laws.Named.sub_2C imm
  | sub_2D imm => exact Laws.Named.sub_2D imm
  | das_2F => exact Laws.Named.das_2F
  | xor_30 reg e => exact Laws.Named.xor_30 reg e
  | xor_31 reg e => exact Laws.Named.xor_31 reg e
  | xor_32 reg e => exact Laws.Named.xor_32 reg e
  | xor_33 reg e => exact Laws.Named.xor_33 reg e
  | xor_34 imm => exact Laws.Named.xor_34 imm
  | xor_35 imm => exact Laws.Named.xor_35 imm
  | aaa_37 => exact Laws.Named.aaa_37
  | cmp_38 reg e => exact Laws.Named.cmp_38 reg e
  | cmp_39 reg e => exact Laws.Named.cmp_39 reg e
  | cmp_3A reg e => exact Laws.Named.cmp_3A reg e
  | cmp_3B reg e => exact Laws.Named.cmp_3B reg e
  | cmp_3C imm => exact Laws.Named.cmp_3C imm
  | cmp_3D imm => exact Laws.Named.cmp_3D imm
  | aas_3F => exact Laws.Named.aas_3F
  | inc_40 r => exact Laws.Named.inc_40 r
  | dec_48 r => exact Laws.Named.dec_48 r
  | push_50 r => exact Laws.Named.push_50 r
  | pop_58 r => exact Laws.Named.pop_58 r
  | pusha_60 => exact Laws.Named.pusha_60
  | popa_61 => exact Laws.Named.popa_61
  | bound_62 reg e => exact Laws.Named.bound_62 reg e
  | arpl_63 reg e => exact Laws.Named.arpl_63 reg e
  | push_68 imm => exact Laws.Named.push_68 imm
  | imul_69 reg e imm => exact Laws.Named.imul_69 reg e imm
  | push_6A imm => exact Laws.Named.push_6A imm
  | imul_6B reg e imm => exact Laws.Named.imul_6B reg e imm
  | insb_6C => exact Laws.Named.insb_6C
  | insw_6D => exact Laws.Named.insw_6D
  | outsb_6E => exact Laws.Named.outsb_6E
  | outsw_6F => exact Laws.Named.outsw_6F
  | jo_70 rel => exact Laws.Named.jo_70 rel
  | jno_71 rel => exact Laws.Named.jno_71 rel
  | jb_72 rel => exact Laws.Named.jb_72 rel
  | jnb_73 rel => exact Laws.Named.jnb_73 rel
  | jz_74 rel => exact Laws.Named.jz_74 rel
  | jnz_75 rel => exact Laws.Named.jnz_75 rel
  | jbe_76 rel => exact Laws.Named.jbe_76 rel
  | jnbe_77 rel => exact Laws.Named.jnbe_77 rel
  | js_78 rel => exact Laws.Named.js_78 rel
  | jns_79 rel => exact Laws.Named.jns_79 rel
  | jp_7A rel => exact Laws.Named.jp_7A rel
  | jnp_7B rel => exact Laws.Named.jnp_7B rel
  | jl_7C rel => exact Laws.Named.jl_7C rel
  | jnl_7D rel => exact Laws.Named.jnl_7D rel
  | jle_7E rel => exact Laws.Named.jle_7E rel
  | jnle_7F rel => exact Laws.Named.jnle_7F rel
  | add_80_0 e imm => exact Laws.Named.add_80_0 e imm
  | or_80_1 e imm => exact Laws.Named.or_80_1 e imm
  | adc_80_2 e imm => exact Laws.Named.adc_80_2 e imm
  | sbb_80_3 e imm => exact Laws.Named.sbb_80_3 e imm
  | and_80_4 e imm => exact Laws.Named.and_80_4 e imm
  | sub_80_5 e imm => exact Laws.Named.sub_80_5 e imm
  | xor_80_6 e imm => exact Laws.Named.xor_80_6 e imm
  | cmp_80_7 e imm => exact Laws.Named.cmp_80_7 e imm
  | add_81_0 e imm => exact Laws.Named.add_81_0 e imm
  | or_81_1 e imm => exact Laws.Named.or_81_1 e imm
  | adc_81_2 e imm => exact Laws.Named.adc_81_2 e imm
  | sbb_81_3 e imm => exact Laws.Named.sbb_81_3 e imm
  | and_81_4 e imm => exact Laws.Named.and_81_4 e imm
  | sub_81_5 e imm => exact Laws.Named.sub_81_5 e imm
  | xor_81_6 e imm => exact Laws.Named.xor_81_6 e imm
  | cmp_81_7 e imm => exact Laws.Named.cmp_81_7 e imm
  | add_82_0 e imm => exact Laws.Named.add_82_0 e imm
  | or_82_1 e imm => exact Laws.Named.or_82_1 e imm
  | adc_82_2 e imm => exact Laws.Named.adc_82_2 e imm
  | sbb_82_3 e imm => exact Laws.Named.sbb_82_3 e imm
  | and_82_4 e imm => exact Laws.Named.and_82_4 e imm
  | sub_82_5 e imm => exact Laws.Named.sub_82_5 e imm
  | xor_82_6 e imm => exact Laws.Named.xor_82_6 e imm
  | cmp_82_7 e imm => exact Laws.Named.cmp_82_7 e imm
  | add_83_0 e imm => exact Laws.Named.add_83_0 e imm
  | or_83_1 e imm => exact Laws.Named.or_83_1 e imm
  | adc_83_2 e imm => exact Laws.Named.adc_83_2 e imm
  | sbb_83_3 e imm => exact Laws.Named.sbb_83_3 e imm
  | and_83_4 e imm => exact Laws.Named.and_83_4 e imm
  | sub_83_5 e imm => exact Laws.Named.sub_83_5 e imm
  | xor_83_6 e imm => exact Laws.Named.xor_83_6 e imm
  | cmp_83_7 e imm => exact Laws.Named.cmp_83_7 e imm
  | test_84 reg e => exact Laws.Named.test_84 reg e
  | test_85 reg e => exact Laws.Named.test_85 reg e
  | xchg_86 reg e => exact Laws.Named.xchg_86 reg e
  | xchg_87 reg e => exact Laws.Named.xchg_87 reg e
  | mov_88 reg e => exact Laws.Named.mov_88 reg e
  | mov_89 reg e => exact Laws.Named.mov_89 reg e
  | mov_8A reg e => exact Laws.Named.mov_8A reg e
  | mov_8B reg e => exact Laws.Named.mov_8B reg e
  | mov_8C reg e => exact Laws.Named.mov_8C reg e
  | lea_8D reg e => exact Laws.Named.lea_8D reg e
  | mov_8E reg e => exact Laws.Named.mov_8E reg e
  | pop_8F_0 e => exact Laws.Named.pop_8F_0 e
  | nop_90 => exact Laws.Named.nop_90
  | xchg_91 => exact Laws.Named.xchg_91
  | xchg_92 => exact Laws.Named.xchg_92
  | xchg_93 => exact Laws.Named.xchg_93
  | xchg_94 => exact Laws.Named.xchg_94
  | xchg_95 => exact Laws.Named.xchg_95
  | xchg_96 => exact Laws.Named.xchg_96
  | xchg_97 => exact Laws.Named.xchg_97
  | cbw_98 => exact Laws.Named.cbw_98
  | cwd_99 => exact Laws.Named.cwd_99
  | callf_9A off sel => exact Laws.Named.callf_9A off sel
  | wait_9B => exact Laws.Named.wait_9B
  | pushf_9C => exact Laws.Named.pushf_9C
  | popf_9D => exact Laws.Named.popf_9D
  | sahf_9E => exact Laws.Named.sahf_9E
  | lahf_9F => exact Laws.Named.lahf_9F
  | mov_A0 off => exact Laws.Named.mov_A0 off
  | mov_A1 off => exact Laws.Named.mov_A1 off
  | mov_A2 off => exact Laws.Named.mov_A2 off
  | mov_A3 off => exact Laws.Named.mov_A3 off
  | movsb_A4 => exact Laws.Named.movsb_A4
  | movsw_A5 => exact Laws.Named.movsw_A5
  | cmpsb_A6 => exact Laws.Named.cmpsb_A6
  | cmpsw_A7 => exact Laws.Named.cmpsw_A7
  | test_A8 imm => exact Laws.Named.test_A8 imm
  | test_A9 imm => exact Laws.Named.test_A9 imm
  | stosb_AA => exact Laws.Named.stosb_AA
  | stosw_AB => exact Laws.Named.stosw_AB
  | lodsb_AC => exact Laws.Named.lodsb_AC
  | lodsw_AD => exact Laws.Named.lodsw_AD
  | scasb_AE => exact Laws.Named.scasb_AE
  | scasw_AF => exact Laws.Named.scasw_AF
  | mov_B0 r imm => exact Laws.Named.mov_B0 r imm
  | mov_B8 r imm => exact Laws.Named.mov_B8 r imm
  | rol_C0_0 e imm => exact Laws.Named.rol_C0_0 e imm
  | ror_C0_1 e imm => exact Laws.Named.ror_C0_1 e imm
  | rcl_C0_2 e imm => exact Laws.Named.rcl_C0_2 e imm
  | rcr_C0_3 e imm => exact Laws.Named.rcr_C0_3 e imm
  | shl_C0_4 e imm => exact Laws.Named.shl_C0_4 e imm
  | shr_C0_5 e imm => exact Laws.Named.shr_C0_5 e imm
  | sar_C0_7 e imm => exact Laws.Named.sar_C0_7 e imm
  | rol_C1_0 e imm => exact Laws.Named.rol_C1_0 e imm
  | ror_C1_1 e imm => exact Laws.Named.ror_C1_1 e imm
  | rcl_C1_2 e imm => exact Laws.Named.rcl_C1_2 e imm
  | rcr_C1_3 e imm => exact Laws.Named.rcr_C1_3 e imm
  | shl_C1_4 e imm => exact Laws.Named.shl_C1_4 e imm
  | shr_C1_5 e imm => exact Laws.Named.shr_C1_5 e imm
  | sar_C1_7 e imm => exact Laws.Named.sar_C1_7 e imm
  | ret_C2 imm => exact Laws.Named.ret_C2 imm
  | ret_C3 => exact Laws.Named.ret_C3
  | les_C4 reg e => exact Laws.Named.les_C4 reg e
  | lds_C5 reg e => exact Laws.Named.lds_C5 reg e
  | mov_C6_0 e imm => exact Laws.Named.mov_C6_0 e imm
  | mov_C7_0 e imm => exact Laws.Named.mov_C7_0 e imm
  | enter_C8 size level => exact Laws.Named.enter_C8 size level
  | leave_C9 => exact Laws.Named.leave_C9
  | retf_CA imm => exact Laws.Named.retf_CA imm
  | retf_CB => exact Laws.Named.retf_CB
  | int3_CC => exact Laws.Named.int3_CC
  | int_CD imm => exact Laws.Named.int_CD imm
  | into_CE => exact Laws.Named.into_CE
  | iret_CF => exact Laws.Named.iret_CF
  | rol_D0_0 e => exact Laws.Named.rol_D0_0 e
  | ror_D0_1 e => exact Laws.Named.ror_D0_1 e
  | rcl_D0_2 e => exact Laws.Named.rcl_D0_2 e
  | rcr_D0_3 e => exact Laws.Named.rcr_D0_3 e
  | shl_D0_4 e => exact Laws.Named.shl_D0_4 e
  | shr_D0_5 e => exact Laws.Named.shr_D0_5 e
  | sar_D0_7 e => exact Laws.Named.sar_D0_7 e
  | rol_D1_0 e => exact Laws.Named.rol_D1_0 e
  | ror_D1_1 e => exact Laws.Named.ror_D1_1 e
  | rcl_D1_2 e => exact Laws.Named.rcl_D1_2 e
  | rcr_D1_3 e => exact Laws.Named.rcr_D1_3 e
  | shl_D1_4 e => exact Laws.Named.shl_D1_4 e
  | shr_D1_5 e => exact Laws.Named.shr_D1_5 e
  | sar_D1_7 e => exact Laws.Named.sar_D1_7 e
  | rol_D2_0 e => exact Laws.Named.rol_D2_0 e
  | ror_D2_1 e => exact Laws.Named.ror_D2_1 e
  | rcl_D2_2 e => exact Laws.Named.rcl_D2_2 e
  | rcr_D2_3 e => exact Laws.Named.rcr_D2_3 e
  | shl_D2_4 e => exact Laws.Named.shl_D2_4 e
  | shr_D2_5 e => exact Laws.Named.shr_D2_5 e
  | sar_D2_7 e => exact Laws.Named.sar_D2_7 e
  | rol_D3_0 e => exact Laws.Named.rol_D3_0 e
  | ror_D3_1 e => exact Laws.Named.ror_D3_1 e
  | rcl_D3_2 e => exact Laws.Named.rcl_D3_2 e
  | rcr_D3_3 e => exact Laws.Named.rcr_D3_3 e
  | shl_D3_4 e => exact Laws.Named.shl_D3_4 e
  | shr_D3_5 e => exact Laws.Named.shr_D3_5 e
  | sar_D3_7 e => exact Laws.Named.sar_D3_7 e
  | aam_D4 imm => exact Laws.Named.aam_D4 imm
  | aad_D5 imm => exact Laws.Named.aad_D5 imm
  | xlat_D7 => exact Laws.Named.xlat_D7
  | esc_D8 r => exact Laws.Named.esc_D8 r
  | loopne_E0 rel => exact Laws.Named.loopne_E0 rel
  | loope_E1 rel => exact Laws.Named.loope_E1 rel
  | loop_E2 rel => exact Laws.Named.loop_E2 rel
  | jcxz_E3 rel => exact Laws.Named.jcxz_E3 rel
  | in_E4 imm => exact Laws.Named.in_E4 imm
  | in_E5 imm => exact Laws.Named.in_E5 imm
  | out_E6 imm => exact Laws.Named.out_E6 imm
  | out_E7 imm => exact Laws.Named.out_E7 imm
  | call_E8 rel => exact Laws.Named.call_E8 rel
  | jmp_E9 rel => exact Laws.Named.jmp_E9 rel
  | jmpf_EA off sel => exact Laws.Named.jmpf_EA off sel
  | jmp_EB rel => exact Laws.Named.jmp_EB rel
  | in_EC => exact Laws.Named.in_EC
  | in_ED => exact Laws.Named.in_ED
  | out_EE => exact Laws.Named.out_EE
  | out_EF => exact Laws.Named.out_EF
  | hlt_F4 => exact Laws.Named.hlt_F4
  | cmc_F5 => exact Laws.Named.cmc_F5
  | test_F6_0 e imm => exact Laws.Named.test_F6_0 e imm
  | not_F6_2 e => exact Laws.Named.not_F6_2 e
  | neg_F6_3 e => exact Laws.Named.neg_F6_3 e
  | mul_F6_4 e => exact Laws.Named.mul_F6_4 e
  | imul_F6_5 e => exact Laws.Named.imul_F6_5 e
  | div_F6_6 e => exact Laws.Named.div_F6_6 e
  | idiv_F6_7 e => exact Laws.Named.idiv_F6_7 e
  | test_F7_0 e imm => exact Laws.Named.test_F7_0 e imm
  | not_F7_2 e => exact Laws.Named.not_F7_2 e
  | neg_F7_3 e => exact Laws.Named.neg_F7_3 e
  | mul_F7_4 e => exact Laws.Named.mul_F7_4 e
  | imul_F7_5 e => exact Laws.Named.imul_F7_5 e
  | div_F7_6 e => exact Laws.Named.div_F7_6 e
  | idiv_F7_7 e => exact Laws.Named.idiv_F7_7 e
  | clc_F8 => exact Laws.Named.clc_F8
  | stc_F9 => exact Laws.Named.stc_F9
  | cli_FA => exact Laws.Named.cli_FA
  | sti_FB => exact Laws.Named.sti_FB
  | cld_FC => exact Laws.Named.cld_FC
  | std_FD => exact Laws.Named.std_FD
  | inc_FE_0 e => exact Laws.Named.inc_FE_0 e
  | dec_FE_1 e => exact Laws.Named.dec_FE_1 e
  | inc_FF_0 e => exact Laws.Named.inc_FF_0 e
  | dec_FF_1 e => exact Laws.Named.dec_FF_1 e
  | call_FF_2 e => exact Laws.Named.call_FF_2 e
  | callf_FF_3 e => exact Laws.Named.callf_FF_3 e
  | jmp_FF_4 e => exact Laws.Named.jmp_FF_4 e
  | jmpf_FF_5 e => exact Laws.Named.jmpf_FF_5 e
  | push_FF_6 e => exact Laws.Named.push_FF_6 e
  | sldt_0F00_0 e => exact Laws.Named.sldt_0F00_0 e
  | str_0F00_1 e => exact Laws.Named.str_0F00_1 e
  | lldt_0F00_2 e => exact Laws.Named.lldt_0F00_2 e
  | ltr_0F00_3 e => exact Laws.Named.ltr_0F00_3 e
  | verr_0F00_4 e => exact Laws.Named.verr_0F00_4 e
  | verw_0F00_5 e => exact Laws.Named.verw_0F00_5 e
  | sgdt_0F01_0 e => exact Laws.Named.sgdt_0F01_0 e
  | sidt_0F01_1 e => exact Laws.Named.sidt_0F01_1 e
  | lgdt_0F01_2 e => exact Laws.Named.lgdt_0F01_2 e
  | lidt_0F01_3 e => exact Laws.Named.lidt_0F01_3 e
  | smsw_0F01_4 e => exact Laws.Named.smsw_0F01_4 e
  | lmsw_0F01_6 e => exact Laws.Named.lmsw_0F01_6 e
  | lar_0F02 reg e => exact Laws.Named.lar_0F02 reg e
  | lsl_0F03 reg e => exact Laws.Named.lsl_0F03 reg e
  | clts_0F06 => exact Laws.Named.clts_0F06
  | mov_0F20 mod reg rm => exact Laws.Named.mov_0F20 mod reg rm
  | mov_0F21 mod reg rm => exact Laws.Named.mov_0F21 mod reg rm
  | mov_0F22 mod reg rm => exact Laws.Named.mov_0F22 mod reg rm
  | mov_0F23 mod reg rm => exact Laws.Named.mov_0F23 mod reg rm
  | mov_0F24 mod reg rm => exact Laws.Named.mov_0F24 mod reg rm
  | mov_0F26 mod reg rm => exact Laws.Named.mov_0F26 mod reg rm
  | jo_0F80 rel => exact Laws.Named.jo_0F80 rel
  | jno_0F81 rel => exact Laws.Named.jno_0F81 rel
  | jb_0F82 rel => exact Laws.Named.jb_0F82 rel
  | jnb_0F83 rel => exact Laws.Named.jnb_0F83 rel
  | jz_0F84 rel => exact Laws.Named.jz_0F84 rel
  | jnz_0F85 rel => exact Laws.Named.jnz_0F85 rel
  | jbe_0F86 rel => exact Laws.Named.jbe_0F86 rel
  | jnbe_0F87 rel => exact Laws.Named.jnbe_0F87 rel
  | js_0F88 rel => exact Laws.Named.js_0F88 rel
  | jns_0F89 rel => exact Laws.Named.jns_0F89 rel
  | jp_0F8A rel => exact Laws.Named.jp_0F8A rel
  | jnp_0F8B rel => exact Laws.Named.jnp_0F8B rel
  | jl_0F8C rel => exact Laws.Named.jl_0F8C rel
  | jnl_0F8D rel => exact Laws.Named.jnl_0F8D rel
  | jle_0F8E rel => exact Laws.Named.jle_0F8E rel
  | jnle_0F8F rel => exact Laws.Named.jnle_0F8F rel
  | seto_0F90 reg e => exact Laws.Named.seto_0F90 reg e
  | setno_0F91 reg e => exact Laws.Named.setno_0F91 reg e
  | setb_0F92 reg e => exact Laws.Named.setb_0F92 reg e
  | setnb_0F93 reg e => exact Laws.Named.setnb_0F93 reg e
  | setz_0F94 reg e => exact Laws.Named.setz_0F94 reg e
  | setnz_0F95 reg e => exact Laws.Named.setnz_0F95 reg e
  | setbe_0F96 reg e => exact Laws.Named.setbe_0F96 reg e
  | setnbe_0F97 reg e => exact Laws.Named.setnbe_0F97 reg e
  | sets_0F98 reg e => exact Laws.Named.sets_0F98 reg e
  | setns_0F99 reg e => exact Laws.Named.setns_0F99 reg e
  | setp_0F9A reg e => exact Laws.Named.setp_0F9A reg e
  | setnp_0F9B reg e => exact Laws.Named.setnp_0F9B reg e
  | setl_0F9C reg e => exact Laws.Named.setl_0F9C reg e
  | setnl_0F9D reg e => exact Laws.Named.setnl_0F9D reg e
  | setle_0F9E reg e => exact Laws.Named.setle_0F9E reg e
  | setnle_0F9F reg e => exact Laws.Named.setnle_0F9F reg e
  | push_0FA0 => exact Laws.Named.push_0FA0
  | pop_0FA1 => exact Laws.Named.pop_0FA1
  | bt_0FA3 reg e => exact Laws.Named.bt_0FA3 reg e
  | shld_0FA4 reg e imm => exact Laws.Named.shld_0FA4 reg e imm
  | shld_0FA5 reg e => exact Laws.Named.shld_0FA5 reg e
  | push_0FA8 => exact Laws.Named.push_0FA8
  | pop_0FA9 => exact Laws.Named.pop_0FA9
  | bts_0FAB reg e => exact Laws.Named.bts_0FAB reg e
  | shrd_0FAC reg e imm => exact Laws.Named.shrd_0FAC reg e imm
  | shrd_0FAD reg e => exact Laws.Named.shrd_0FAD reg e
  | imul_0FAF reg e => exact Laws.Named.imul_0FAF reg e
  | lss_0FB2 reg e => exact Laws.Named.lss_0FB2 reg e
  | btr_0FB3 reg e => exact Laws.Named.btr_0FB3 reg e
  | lfs_0FB4 reg e => exact Laws.Named.lfs_0FB4 reg e
  | lgs_0FB5 reg e => exact Laws.Named.lgs_0FB5 reg e
  | movzx_0FB6 reg e => exact Laws.Named.movzx_0FB6 reg e
  | movzx_0FB7 reg e => exact Laws.Named.movzx_0FB7 reg e
  | bt_0FBA_4 e imm => exact Laws.Named.bt_0FBA_4 e imm
  | bts_0FBA_5 e imm => exact Laws.Named.bts_0FBA_5 e imm
  | btr_0FBA_6 e imm => exact Laws.Named.btr_0FBA_6 e imm
  | btc_0FBA_7 e imm => exact Laws.Named.btc_0FBA_7 e imm
  | btc_0FBB reg e => exact Laws.Named.btc_0FBB reg e
  | bsf_0FBC reg e => exact Laws.Named.bsf_0FBC reg e
  | bsr_0FBD reg e => exact Laws.Named.bsr_0FBD reg e
  | movsx_0FBE reg e => exact Laws.Named.movsx_0FBE reg e
  | movsx_0FBF reg e => exact Laws.Named.movsx_0FBF reg e
  | unassignedOneByte b => exact Laws.Named.unassignedOneByte b
  | unassignedTwoByte b => exact Laws.Named.unassignedTwoByte b

end Sys2Proof
end

