-- ==== Sys2Proof/Laws/Step.lean ====
section
/-!
SUPPORT. What the decoder answers to any bytes, said once (`RowRead`), and what a step of a request in
progress can do, said once (`Served`): later proofs take these apart and unfold neither.
-/

namespace Sys2Proof

/-! ## How a field can be cut off -/

/-- The bytes end inside a field: `p` counts from where `bs` stands at `pos`, and what is left is shorter
than any field (R902). -/
structure Cut (bs : List Byte) (pos p : Nat) (bytes : List Byte) : Prop where
  start : pos ≤ p
  inside : p - pos ≤ bs.length
  left : bytes = bs.drop (p - pos)
  short : bytes.length < 4

theorem Cut.append {bs pre : List Byte} {pos p : Nat} {bytes : List Byte} (h : Cut bs (pos + pre.length) p bytes) :
    Cut (pre ++ bs) pos p bytes := by
  obtain ⟨h1, h2, h3, h4⟩ := h
  have e : p - pos = pre.length + (p - (pos + pre.length)) := by omega
  refine ⟨by omega, by simp; omega, ?_, h4⟩
  rw [h3, e, List.drop_append, Nat.add_sub_cancel_left,
    List.drop_of_length_le (l := pre) (Nat.le_add_right ..), List.nil_append]

theorem readField_error {field : FailField} {n pos : Nat} {bs : List Byte} {e : DecodeError}
    (hn : n = 0 ∨ n = 1 ∨ n = 2 ∨ n = 4) (h : readField field n pos bs = .error e) :
    e = .truncated field pos bs ∧ bs.length < n := by
  unfold readField at h
  split at h
  · cases h
  · rename_i hf
    cases h
    exact ⟨rfl, (takeField_eq_none hn bs).1 hf⟩

theorem readField_cut {field : FailField} {n pos : Nat} {bs : List Byte} {e : DecodeError}
    (hn : n = 0 ∨ n = 1 ∨ n = 2 ∨ n = 4) (h : readField field n pos bs = .error e) :
    ∃ p bytes, e = .truncated field p bytes ∧ Cut bs pos p bytes := by
  obtain ⟨rfl, hl⟩ := readField_error hn h
  exact ⟨pos, bs, rfl, Nat.le_refl _, by simp, by simp, by omega⟩

theorem readDisp_cut {sib : Option Sib} {n pos : Nat} {bs : List Byte} {e : DecodeError}
    (hn : n = 0 ∨ n = 1 ∨ n = 2 ∨ n = 4) (h : readDisp sib n pos bs = .error e) :
    ∃ field p bytes, e = .truncated field p bytes ∧ Cut bs pos p bytes := by
  unfold readDisp at h
  split at h
  · cases h
  · rename_i hf
    cases h
    exact ⟨_, readField_cut hn hf⟩

theorem readMemory_cut {asz : Width} {m : ModRM} {pos : Nat} {bs : List Byte} {e : DecodeError}
    (h : readMemory asz m pos bs = .error e) : ∃ field p bytes, e = .truncated field p bytes ∧ Cut bs pos p bytes := by
  unfold readMemory at h
  cases asz with
  | s16 => exact readDisp_cut (by have := dispSize16_cases m.mod m.rm; omega) h
  | s32 =>
    simp only at h
    split at h
    · split at h
      · cases h
        exact ⟨_, _, _, rfl, Nat.le_refl _, by simp, by simp, by simp⟩
      · rename_i b rest
        obtain ⟨field, p, bytes, he, hc⟩ := readDisp_cut (by have := dispSize32_cases m.mod (Sib.ofByte b).base; omega) h
        exact ⟨field, p, bytes, he, Cut.append (pre := [b]) hc⟩
    · exact readDisp_cut (by have := dispSize32_cases m.mod m.rm; omega) h

theorem trailing_size {a : Attrs} {sp : Spec} {n : Nat} {field : FailField} (h : sp.trailing? a = some (n, field)) :
    n = 1 ∨ n = 2 ∨ n = 4 := by
  have hw : ∀ w : Width, w.bytes = 1 ∨ w.bytes = 2 ∨ w.bytes = 4 := by intro w; cases w <;> simp [Width.bytes]
  have hi : ∀ (w : Width) t, immSize w t = 1 ∨ immSize w t = 2 ∨ immSize w t = 4 := by
    intro w t
    cases w
    all_goals cases t
    all_goals decide
  cases sp <;> simp only [Spec.trailing?, Option.some.injEq, Prod.mk.injEq, reduceCtorEq] at h
  · rw [← h.1]; exact hw _
  · rw [← h.1]; exact hi _ _
  · rw [← h.1]; exact hi _ _

theorem readTrailing_cut {a : Attrs} {specs : List Spec} {pos : Nat} {bs : List Byte} {e : DecodeError}
    (h : readTrailing a specs pos bs = .error e) : ∃ field p bytes, e = .truncated field p bytes ∧ Cut bs pos p bytes := by
  induction specs generalizing pos bs with
  | nil => cases h
  | cons sp sps ih =>
    unfold readTrailing at h
    cases ht : sp.trailing? a with
    | none => rw [ht] at h; exact ih h
    | some nf =>
      obtain ⟨n, field⟩ := nf
      have hn := trailing_size ht
      rw [ht] at h
      simp only at h
      split at h
      · rename_i hf
        cases h
        exact ⟨_, readField_cut (Or.inr hn) hf⟩
      · rename_i f rest hf
        split at h
        · rename_i hr
          cases h
          obtain ⟨h1, h2⟩ := readField_ok hf
          obtain ⟨field', p, bytes, he, hc⟩ := ih hr
          refine ⟨field', p, bytes, he, ?_⟩
          rw [h2]
          refine Cut.append ?_
          rw [Field.length_bytes, h1]
          exact hc
        · cases h

theorem readRest_cut {a : Attrs} {d : OpcodeDescriptor} {m : Option ModRM} {sib : Option Sib} {disp : Field}
    {pos : Nat} {bs : List Byte} {e : DecodeError} (h : readRest a d m sib disp pos bs = .error e) :
    ∃ field p bytes, e = .truncated field p bytes ∧ Cut bs pos p bytes := by
  unfold readRest at h
  split at h
  · cases h
  · rename_i hr; cases h; exact readTrailing_cut hr

/-- Fields that cannot be read: an S-class operand with no register, or the bytes end inside one. -/
theorem readFields_error {a : Attrs} {k : Key} {g : Bool} {d : OpcodeDescriptor} {pos : Nat} {bs : List Byte}
    {e : DecodeError} (h : readFields a k g d pos bs = .error e) :
    (∃ b more, bs = b :: more ∧ segmentMissing d (ModRM.ofByte b) = true ∧ e = .noSegment k b) ∨
      ∃ field p bytes, e = .truncated field p bytes ∧ Cut bs pos p bytes := by
  unfold readFields at h
  split at h
  · split at h
    · cases h
      exact .inr ⟨_, _, _, rfl, Nat.le_refl _, by simp, by simp, by simp⟩
    · rename_i b rest
      simp only at h
      split at h
      · rename_i hs
        cases h
        exact .inl ⟨b, rest, rfl, hs, rfl⟩
      · refine .inr ?_
        split at h
        · split at h
          · rename_i hr
            cases h
            obtain ⟨field, p, bytes, he, hc⟩ := readMemory_cut hr
            exact ⟨field, p, bytes, he, Cut.append (pre := [b]) hc⟩
          · rename_i sib disp rest' hr
            obtain ⟨field, p, bytes, he, hc⟩ := readRest_cut h
            refine ⟨field, p, bytes, he, Cut.append (pre := [b]) ?_⟩
            have h2 := (readMemory_ok hr).2
            rw [h2, List.append_assoc]
            rw [← List.append_assoc]
            refine Cut.append ?_
            have e1 : pos + [b].length + ((sib.map Sib.toByte).toList ++ disp.bytes).length =
                pos + 1 + sib.toList.length + disp.size := by
              cases sib with
              | none => simp [Field.length_bytes]
              | some _ => simp [Field.length_bytes]; omega
            rw [e1]
            exact hc
        · obtain ⟨field, p, bytes, he, hc⟩ := readRest_cut h
          exact ⟨field, p, bytes, he, Cut.append (pre := [b]) hc⟩
  · exact .inr (readRest_cut h)

/-! ## What the decoder answers -/

/-- The final descriptor of a key, and the group slot it stands in, with `rest` the bytes after the key. -/
def Final (t : OpcodeTable) (k : Key) (slot : Option (BitVec 3)) (d : OpcodeDescriptor) (rest : List Byte) : Prop :=
  (slot = none ∧ t.find k = some (.desc d)) ∨
  ∃ slots b more, slot = some (b.extractLsb' 3 3) ∧ rest = b :: more ∧ t.find k = some (.group slots) ∧
    slots[(b.extractLsb' 3 3).toNat]? = some (some d)

/-- The byte of a one-byte key is one the scanner does not take. -/
def Opcode (k : Key) : Prop := ∀ b, k = .one b → scannerRow? b = none

/-- Every answer of the decoder, with the bytes it is given. -/
inductive RowRead (t : OpcodeTable) (m : OpMap) (a : Attrs) :
    List Byte → Except DecodeError (Decoded × List Byte) → Prop
  | empty : RowRead t m a [] (.error (.truncated .opcode 0 []))
  | scanner (b : Byte) (i : Instr) (rest : List Byte) (hm : m = .oneByte) (hi : scannerRow? b = some i) :
      RowRead t m a (b :: rest) (.ok (.row i, rest))
  | unassignedRow (k : Key) (i : Instr) (rest : List Byte) (hm : k.opMap = m) (ho : Opcode k)
      (hf : t.find k = none) (hi : unassignedRow? k = some i) : RowRead t m a (k.last :: rest) (.ok (.row i, rest))
  | unassigned (k : Key) (rest : List Byte) (hm : k.opMap = m) (ho : Opcode k) (hf : t.find k = none) :
      RowRead t m a (k.last :: rest) (.error (.unassigned k))
  | groupCut (k : Key) (slots : List (Option OpcodeDescriptor)) (hm : k.opMap = m) (ho : Opcode k)
      (hf : t.find k = some (.group slots)) : RowRead t m a [k.last] (.error (.truncated .modrm 1 []))
  | emptySlot (k : Key) (slots : List (Option OpcodeDescriptor)) (b : Byte) (rest : List Byte)
      (hm : k.opMap = m) (ho : Opcode k) (hf : t.find k = some (.group slots))
      (hs : slots[(b.extractLsb' 3 3).toNat]?.join = none) :
      RowRead t m a (k.last :: b :: rest) (.error (.emptySlot k b))
  | unsupported (k : Key) (slot : Option (BitVec 3)) (d : OpcodeDescriptor) (rest : List Byte)
      (hm : k.opMap = m) (ho : Opcode k) (hf : Final t k slot d rest) (hx : d.specs.any Spec.isFpu = true) :
      RowRead t m a (k.last :: rest) (.ok (nameRow k slot d (.plain []), rest))
  | noSegment (k : Key) (slot : Option (BitVec 3)) (d : OpcodeDescriptor) (b : Byte) (rest : List Byte)
      (hm : k.opMap = m) (ho : Opcode k) (hf : Final t k slot d (b :: rest)) (hx : d.specs.any Spec.isFpu = false)
      (hs : segmentMissing d (ModRM.ofByte b) = true) :
      RowRead t m a (k.last :: b :: rest) (.error (.noSegment k b))
  | cut (k : Key) (slot : Option (BitVec 3)) (d : OpcodeDescriptor) (rest : List Byte) (field : FailField)
      (p : Nat) (bytes : List Byte) (hm : k.opMap = m) (ho : Opcode k) (hf : Final t k slot d rest)
      (hx : d.specs.any Spec.isFpu = false) (hc : Cut rest 1 p bytes)
      (hr : readFields a k slot.isSome d 1 rest = .error (.truncated field p bytes)) :
      RowRead t m a (k.last :: rest) (.error (.truncated field p bytes))
  | fields (k : Key) (slot : Option (BitVec 3)) (d : OpcodeDescriptor) (f : Fields) (rest : List Byte)
      (hm : k.opMap = m) (ho : Opcode k) (hf : Final t k slot d (f.bytes ++ rest))
      (hx : d.specs.any Spec.isFpu = false) (hs : SlotMatches slot f) (hw : FieldsFit a slot.isSome d f) :
      RowRead t m a (k.last :: (f.bytes ++ rest)) (.ok (nameRow k slot d f, rest))

theorem decodeDescriptor_read {t : OpcodeTable} {m : OpMap} {a : Attrs} {k : Key} {slot : Option (BitVec 3)}
    {d : OpcodeDescriptor} {rest : List Byte} (hm : k.opMap = m) (ho : Opcode k) (hf : Final t k slot d rest) :
    RowRead t m a (k.last :: rest) (decodeDescriptor a k slot d rest) := by
  unfold decodeDescriptor
  split
  · rename_i hx
    exact .unsupported k slot d rest hm ho hf hx
  · rename_i hx
    simp only [Bool.not_eq_true] at hx
    cases hr : readFields a k slot.isSome d 1 rest with
    | ok r =>
      obtain ⟨f, rest'⟩ := r
      obtain ⟨hw, rfl⟩ := readFields_ok hr
      refine .fields k slot d f rest' hm ho hf hx ?_ hw
      intro r hsr
      rcases hf with ⟨h, -⟩ | ⟨slots, b, more, h, hb, -⟩
      · rw [h] at hsr; cases hsr
      · rw [h] at hsr
        have hn : needsModRM slot.isSome d = true := by simp [h, needsModRM]
        have hblk := hw.block
        rw [if_pos hn] at hblk
        obtain ⟨m', hm', -⟩ := hblk
        refine ⟨m', hm', ?_⟩
        have hby : b = m'.toByte := by
          have := hb
          simp only [Fields.bytes, hm', Option.map_some, Option.toList_some, List.cons_append,
            List.cons.injEq] at this
          exact this.1.symm
        cases hsr
        rw [hby]
        exact (congrArg ModRM.reg (ModRM.ofByte_toByte m')).symm
    | error e =>
      rcases readFields_error hr with ⟨b, more, rfl, hs, rfl⟩ | ⟨field, p, bytes, rfl, hc⟩
      · exact .noSegment k slot d b more hm ho hf hx hs
      · exact .cut k slot d rest field p bytes hm ho hf hx hc hr

theorem decodeKey_read (t : OpcodeTable) {m : OpMap} (a : Attrs) {k : Key} (rest : List Byte) (hm : k.opMap = m)
    (ho : Opcode k) : RowRead t m a (k.last :: rest) (decodeKey t a k rest) := by
  unfold decodeKey
  split
  · rename_i hf
    split
    · rename_i i hi
      exact .unassignedRow k i rest hm ho hf hi
    · exact .unassigned k rest hm ho hf
  · rename_i d hf
    exact decodeDescriptor_read hm ho (.inl ⟨rfl, hf⟩)
  · rename_i slots hf
    split
    · exact .groupCut k slots hm ho hf
    · rename_i b more
      simp only
      split
      · rename_i d hj
        refine decodeDescriptor_read hm ho (.inr ⟨slots, b, more, rfl, rfl, hf, ?_⟩)
        exact Option.join_eq_some_iff.1 hj
      · rename_i hj
        exact .emptySlot k slots b more hm ho hf hj

/-- The decoder's answer to any bytes is one of these. -/
theorem decodeRow_read (t : OpcodeTable) (m : OpMap) (a : Attrs) (bs : List Byte) :
    RowRead t m a bs (decodeRow t m a bs) := by
  cases bs with
  | nil => exact .empty
  | cons b rest =>
    cases m with
    | oneByte =>
      unfold decodeRow
      simp only
      split
      · rename_i i hi
        exact .scanner b i rest rfl hi
      · rename_i hi
        exact decodeKey_read t a (k := .one b) rest rfl (fun b' h => by cases h; exact hi)
    | twoByte => exact decodeKey_read t a (k := .two b) rest rfl (fun b' h => nomatch h)

/-! ## Fpu specs of the default table -/

/-- No group of the default table has an Fpu spec. -/
theorem descriptor_group_noFpu {k : Key} {r : BitVec 3} {d : OpcodeDescriptor}
    (h : defaultTable.descriptor? k (some r) = some d) : d.specs.any Spec.isFpu = false := by
  have hall : ∀ e ∈ defaultTable, (match e.2 with
      | .group slots => slots.all fun o => match o with | some d => !(d.specs.any Spec.isFpu) | none => true
      | .desc _ => true) = true := by decide +kernel
  unfold OpcodeTable.descriptor? at h
  split at h
  · cases ‹some r = none›
  · rename_i slots r' hf _
    have := hall _ (OpcodeTable.mem_of_find hf)
    simp only [List.all_eq_true] at this
    have hmem : some d ∈ slots := List.mem_of_getElem? (Option.join_eq_some_iff.1 h)
    simpa using this _ hmem
  · cases h

/-- The decoder names a row only where the default table has the descriptor. -/
theorem nameRow_row_descriptor {k : Key} {slot : Option (BitVec 3)} {d : OpcodeDescriptor} {f : Fields} {i : Instr}
    (h : nameRow k slot d f = .row i) : defaultTable.descriptor? k slot = some d := by
  unfold nameRow at h
  split at h
  · assumption
  · cases h

/-! ## The bytes the scanner takes -/

open Sys2Proof.Machine in
/-- Each scanner byte is a prefix row with the write R92 gives it, or the escape. -/
theorem scannerRow_cases {b : Byte} {i : Instr} (h : scannerRow? b = some i) :
    b ∈ scannerBytes ∧
      ((∃ g, (∀ ps, applyPrefix b ps = some (g ps)) ∧ ∀ s, exec i s = servePrefix g s) ∨
        (b = 0x0F#8 ∧ (∀ ps, applyPrefix b ps = none) ∧ ∀ s, exec i s = serveEscape s)) := by
  have hrow : ∀ b ∈ scannerBytes, ∀ i ∈ scannerRow? b,
      (∃ g, (∀ ps, applyPrefix b ps = some (g ps)) ∧ ∀ s, exec i s = servePrefix g s) ∨
        (b = 0x0F#8 ∧ (∀ ps, applyPrefix b ps = none) ∧ ∀ s, exec i s = serveEscape s) := by
    simp only [scannerBytes, List.forall_mem_cons, List.not_mem_nil, false_implies, implies_true, and_true]
    repeat' apply And.intro
    all_goals
      intro i hi
      cases hi
      first
        | exact .inl ⟨_, fun _ => rfl, fun _ => rfl⟩
        | exact .inr ⟨by trivial, fun _ => rfl, fun _ => rfl⟩
  have hb : ∀ b : Byte, (scannerRow? b).isSome = true → b ∈ scannerBytes := by decide +kernel
  have hm := hb b (by rw [h]; rfl)
  exact ⟨hm, hrow b hm i h⟩

open Sys2Proof.Machine in
theorem scannerRow_none {b : Byte} : scannerRow? b = none ↔ b ∉ scannerBytes := by
  have : ∀ b : Byte, (scannerRow? b).isNone = decide (b ∉ scannerBytes) := by decide +kernel
  rw [← Option.isNone_iff_eq_none, this b, decide_eq_true_iff]

namespace Machine

/-! ## What a step of a request in progress can do -/

/-- The latches of a request answered with descriptor `d` from fields `f` (R43 to R47, R240). -/
def Latches.answered (l : Latches) (s : State) (k : Key) (d : OpcodeDescriptor) (f : Fields) : Latches :=
  (((l.readOpcode s.opcodeTable k d).readBlock s.registerTable d f).format s.registerTable k d f)

/-- Every next state of a step that serves a row. -/
inductive Served (s : State) (l : Latches) : State → Prop
  | ofPrefix (b : Byte) (rest : List Byte) (ps : PrefixState) (ho : l.opcAt = none) (hf : s.fetch l = b :: rest)
      (hp : applyPrefix b l.ps = some ps) : Served s l { s with latches := some { l with ps := ps, cur := l.cur + 1 } }
  | ofEscape (rest : List Byte) (ho : l.opcAt = none) (hf : s.fetch l = 0x0F#8 :: rest) :
      Served s l { s with latches := some { l.endScan with cur := l.cur + 1 } }
  | ofEmpty (hf : s.fetch l = []) : Served s l (failed s l .truncatedInstruction l.cur .opcode [])
  | ofNoEntry (k : Key) (rest : List Byte) (hk : KeyAt s l k rest) (hn : s.opcodeTable.find k = none) :
      Served s l (failed s l .invalidOpcode l.opcodeAt .opcode k.bytes)
  | ofGroupCut (k : Key) (slots : List (Option OpcodeDescriptor)) (hk : KeyAt s l k [])
      (hg : s.opcodeTable.find k = some (.group slots)) :
      Served s l (failed s l .truncatedInstruction (l.cur + 1) .modrm [])
  | ofEmptySlot (k : Key) (slots : List (Option OpcodeDescriptor)) (b : Byte) (rest : List Byte)
      (hk : KeyAt s l k (b :: rest)) (hg : s.opcodeTable.find k = some (.group slots))
      (hs : slots[(b.extractLsb' 3 3).toNat]?.join = none) :
      Served s l (failed s l .invalidOpcode l.opcodeAt .opcode (k.bytes ++ [b]))
  | ofUnsupported (k : Key) (slot : Option (BitVec 3)) (d : OpcodeDescriptor) (rest : List Byte)
      (hk : KeyAt s l k rest) (hd : Final s.opcodeTable k slot d rest) (hx : d.specs.any Spec.isFpu = true) :
      Served s l (failed s l .unsupportedAddressingMode l.opcodeAt .opcode k.bytes)
  | ofNoSegment (k : Key) (slot : Option (BitVec 3)) (d : OpcodeDescriptor) (b : Byte) (rest : List Byte)
      (hk : KeyAt s l k (b :: rest)) (hd : Final s.opcodeTable k slot d (b :: rest))
      (hx : d.specs.any Spec.isFpu = false) (hs : segmentMissing d (ModRM.ofByte b) = true) :
      Served s l (failed s l .invalidOpcode l.opcodeAt .opcode (k.bytes ++ [b]))
  | ofCut (k : Key) (slot : Option (BitVec 3)) (d : OpcodeDescriptor) (rest : List Byte) (field : FailField)
      (p : Nat) (bytes : List Byte) (hk : KeyAt s l k rest) (hd : Final s.opcodeTable k slot d rest)
      (hx : d.specs.any Spec.isFpu = false) (hc : Cut rest 1 p bytes)
      (hr : readFields l.attrs k slot.isSome d 1 rest = .error (.truncated field p bytes)) :
      Served s l (failed s l .truncatedInstruction (l.cur + p) field bytes)
  | ofRow (k : Key) (slot : Option (BitVec 3)) (d : OpcodeDescriptor) (f : Fields) (rest : List Byte)
      (hk : KeyAt s l k (f.bytes ++ rest)) (hd : Final s.opcodeTable k slot d (f.bytes ++ rest))
      (hx : d.specs.any Spec.isFpu = false) (hs : SlotMatches slot f)
      (hw : FieldsFit l.attrs slot.isSome d f) :
      Served s l { s with
        latches := some (l.answered s k d f)
        response := some (.ok ((l.answered s k d f).instruction d)) }

/-- The final descriptor at a key is one. -/
theorem final_unique {t : OpcodeTable} {k : Key} {slot slot' : Option (BitVec 3)} {d d' : OpcodeDescriptor}
    {rest : List Byte} (h : Final t k slot d rest) (h' : Final t k slot' d' rest) : slot = slot' ∧ d = d' := by
  rcases h with ⟨rfl, h⟩ | ⟨slots, b, more, rfl, rfl, h, hd⟩ <;>
    rcases h' with ⟨rfl, h'⟩ | ⟨slots', b', more', rfl, hb, h', hd'⟩ <;> rw [h] at h' <;> cases h'
  · exact ⟨rfl, rfl⟩
  · cases hb
    rw [hd] at hd'
    cases hd'
    exact ⟨rfl, rfl⟩

theorem final_iff {t : OpcodeTable} {k : Key} {d : OpcodeDescriptor} {rest : List Byte} :
    FinalDescriptor t k rest d ↔ ∃ slot, Final t k slot d rest := by
  constructor
  · rintro (h | ⟨slots, m, more, h, rfl, hd⟩)
    · exact ⟨none, .inl ⟨rfl, h⟩⟩
    · exact ⟨_, .inr ⟨slots, m, more, rfl, rfl, h, hd⟩⟩
  · rintro ⟨slot, ⟨-, h⟩ | ⟨slots, m, more, -, rfl, h, hd⟩⟩
    · exact .inl h
    · exact .inr ⟨slots, m, more, h, rfl, hd⟩

theorem Latches.opMap_one {l : Latches} : l.opMap = .oneByte ↔ l.opcAt = none := by
  unfold Latches.opMap; cases l.opcAt <;> simp

theorem keyAt_of {s : State} {l : Latches} {k : Key} {rest : List Byte} (hm : k.opMap = l.opMap) (ho : Opcode k)
    (hf : s.fetch l = k.last :: rest) : KeyAt s l k rest := by
  cases k with
  | one b => exact ⟨Latches.opMap_one.1 hm.symm, scannerRow_none.1 (ho b rfl), hf⟩
  | two b =>
    refine ⟨?_, hf⟩
    unfold Latches.opMap at hm
    split at hm
    · assumption
    · cases hm

/-- Only the scanner's bytes are prefixes (R92, R149). -/
theorem applyPrefix_none {b : Byte} (hb : b ∉ scannerBytes) (ps : PrefixState) : applyPrefix b ps = none := by
  have hall : ∀ b : Byte, b ∈ scannerBytes ∨ applyPrefix b PrefixState.start = none := by decide +kernel
  have hany : applyPrefix b PrefixState.start = none → applyPrefix b ps = none := by
    unfold applyPrefix
    split <;> simp
  exact hany ((hall b).resolve_left hb)

/-- What stands at the cursor is one key. -/
theorem keyAt_unique {s : State} {l : Latches} {k k' : Key} {rest rest' : List Byte} (h : KeyAt s l k rest)
    (h' : KeyAt s l k' rest') : k = k' ∧ rest = rest' := by
  cases k <;> cases k'
  · obtain ⟨-, -, h⟩ := h
    obtain ⟨-, -, h'⟩ := h'
    rw [h] at h'
    cases h'
    exact ⟨rfl, rfl⟩
  · have hc := h'.1
    rw [h.1] at hc
    cases hc
  · have hc := h.1
    rw [h'.1] at hc
    cases hc
  · have h := h.2
    rw [h'.2] at h
    cases h
    exact ⟨rfl, rfl⟩

/-- A key is no prefix byte, no escape and not nothing. -/
theorem keyAt_fetch {s : State} {l : Latches} {k : Key} {rest : List Byte} (h : KeyAt s l k rest) :
    s.fetch l = k.last :: rest ∧ (l.opcAt = none → k.last ∉ scannerBytes) := by
  cases k with
  | one b => exact ⟨h.2.2, fun _ => h.2.1⟩
  | two b => exact ⟨h.2, fun hn => by have hc := h.1; rw [hn] at hc; cases hc⟩

/-- Serving a row with its fields gives its Instruction. -/
theorem serveRow_of_fits {s : State} {l : Latches} (h : s.latches = some l) {a : Attrs} {g : Bool} {k : Key}
    {d : OpcodeDescriptor} {f : Fields} (hx : d.specs.any Spec.isFpu = false) (hw : FieldsFit a g d f) :
    serveRow k d f s = .next { s with
      latches := some (l.answered s k d f)
      response := some (.ok ((l.answered s k d f).instruction d)) } := by
  rw [serveRow_next h]
  unfold State.answer
  have hseg : f.modrm.any (segmentMissing d) = false := by
    have hb := hw.block
    split at hb
    · obtain ⟨m, hm, hs, -⟩ := hb
      simp [hm, hs]
    · simp [hb.1]
  rw [if_neg (by simp [hx]), if_neg (by simp [hseg])]
  rfl

/-- A step of a request in progress always answers a next state, and it is one of these. -/
theorem step_served {s : State} {l : Latches} (h : Serving s l) : ∃ t, step s = .next t ∧ Served s l t := by
  have hstep : step s = match s.decodeAt l with
      | .error e => .next (s.decodeFailure l e)
      | .ok (.row i, _) => exec i s
      | .ok (.configured k d f, _) => serveRow k d f s := by
    unfold step
    generalize hd : s.decodeAt l = r
    obtain e | ⟨i | ⟨k, d, f⟩, rest⟩ := r <;> simp only [h.initialized, h.response, h.latches, hd]
  have hrow : ∀ (k : Key) (slot : Option (BitVec 3)) (d : OpcodeDescriptor) (f : Fields) (rest : List Byte),
      SlotMatches slot f → s.decodeAt l = .ok (nameRow k slot d f, rest) → step s = serveRow k d f s := by
    intro k slot d f rest hs hd
    rw [hstep, hd]
    cases hn : nameRow k slot d f with
    | row i => exact (nameRow_row hn hs).2.2 s
    | configured k' d' f' => obtain ⟨rfl, rfl, rfl⟩ := nameRow_configured hn; rfl
  have hread := decodeRow_read s.opcodeTable l.opMap l.attrs (s.fetch l)
  change RowRead _ _ _ _ (s.decodeAt l) at hread
  generalize hbs : s.fetch l = bs at hread
  generalize hres : s.decodeAt l = r at hread
  cases hread with
  | empty =>
    rw [hstep, hres]
    exact ⟨_, rfl, .ofEmpty hbs⟩
  | scanner b i rest hm hi =>
    have ho := Latches.opMap_one.1 hm
    obtain ⟨-, ⟨g, hg, he⟩ | ⟨rfl, -, he⟩⟩ := scannerRow_cases hi
    · rw [hstep, hres]
      exact ⟨_, (he s).trans (servePrefix_next h.latches g), .ofPrefix b rest _ ho hbs (hg _)⟩
    · rw [hstep, hres]
      exact ⟨_, (he s).trans (serveEscape_next h.latches), .ofEscape rest ho hbs⟩
  | unassignedRow k i rest hm ho hf hi =>
    rw [hstep, hres]
    have he : exec i s = serveUnassigned k s := by
      cases k <;> simp only [unassignedRow?] at hi <;> split at hi <;> cases hi <;> rfl
    exact ⟨_, he.trans (serveUnassigned_next h.latches k), .ofNoEntry k rest (keyAt_of hm ho hbs) hf⟩
  | unassigned k rest hm ho hf =>
    rw [hstep, hres]
    exact ⟨_, rfl, .ofNoEntry k rest (keyAt_of hm ho hbs) hf⟩
  | groupCut k slots hm ho hf =>
    rw [hstep, hres]
    exact ⟨_, rfl, .ofGroupCut k slots (keyAt_of hm ho hbs) hf⟩
  | emptySlot k slots b rest hm ho hf hs =>
    rw [hstep, hres]
    exact ⟨_, rfl, .ofEmptySlot k slots b rest (keyAt_of hm ho hbs) hf hs⟩
  | noSegment k slot d b rest hm ho hf hx hs =>
    rw [hstep, hres]
    exact ⟨_, rfl, .ofNoSegment k slot d b rest (keyAt_of hm ho hbs) hf hx hs⟩
  | cut k slot d rest field p bytes hm ho hf hx hc hr =>
    rw [hstep, hres]
    exact ⟨_, rfl, .ofCut k slot d rest field p bytes (keyAt_of hm ho hbs) hf hx hc hr⟩
  | unsupported k slot d rest hm ho hf hx =>
    have hs : step s = serveRow k d (.plain []) s := by
      rw [hstep, hres]
      cases hn : nameRow k slot d (.plain []) with
      | configured k' d' f' => obtain ⟨rfl, rfl, rfl⟩ := nameRow_configured hn; rfl
      | row i =>
        rcases hf with ⟨rfl, -⟩ | ⟨slots, b, more, rfl, -⟩
        · exact (nameRow_row hn (fun _ h => nomatch h)).2.2 s
        · have := descriptor_group_noFpu (nameRow_row_descriptor hn)
          rw [hx] at this
          cases this
    exact ⟨_, hs.trans (serveRow_fpu h.latches k d _ hx), .ofUnsupported k slot d rest (keyAt_of hm ho hbs) hf hx⟩
  | fields k slot d f rest hm ho hf hx hs hw =>
    exact ⟨_, (hrow k slot d f rest hs hres).trans (serveRow_of_fits h.latches hx hw),
      .ofRow k slot d f rest (keyAt_of hm ho hbs) hf hx hs hw⟩

end Machine

end Sys2Proof
end

