-- ==== Sys2Proof/Laws/Truncation.lean ====
section
/-!
SUPPORT. Where a row is cut off, said once (`Follows`): the readers read the fields `rowFields` lists one
after another, and stop at the first one the bytes do not hold whole (60_exceptions.md R902, R905).
-/

namespace Sys2Proof.Machine

/-! ## The first field that is cut off -/

/-- How many bytes the fields take. -/
def sizes (fields : List (Nat × FailField)) : Nat := (fields.map Prod.fst).sum

@[simp] theorem sizes_nil : sizes [] = 0 := rfl
@[simp] theorem sizes_cons (c : Nat × FailField) (fs : List (Nat × FailField)) : sizes (c :: fs) = c.1 + sizes fs := by
  simp [sizes]
@[simp] theorem sizes_append (fs gs : List (Nat × FailField)) : sizes (fs ++ gs) = sizes fs + sizes gs := by
  simp [sizes]

theorem FirstCut.here {n : Nat} {field : FailField} {more : List (Nat × FailField)} {bs : List Byte}
    (h : bs.length < n) : FirstCut ((n, field) :: more) bs field n 0 :=
  ⟨[], more, rfl, rfl, Nat.zero_le _, by simpa using h⟩

theorem FirstCut.right {fs gs : List (Nat × FailField)} {bs : List Byte} {field : FailField} {n p : Nat}
    (h : FirstCut fs bs field n p) : FirstCut (fs ++ gs) bs field n p := by
  obtain ⟨before, after, rfl, h2, h3, h4⟩ := h
  exact ⟨before, after ++ gs, by simp, h2, h3, h4⟩

theorem FirstCut.left {fs gs : List (Nat × FailField)} {pre bs : List Byte} {field : FailField} {n p : Nat}
    (hp : pre.length = sizes fs) (h : FirstCut gs bs field n p) :
    FirstCut (fs ++ gs) (pre ++ bs) field n (pre.length + p) := by
  obtain ⟨before, after, rfl, rfl, h3, h4⟩ := h
  refine ⟨fs ++ before, after, by simp, by rw [hp]; simp [sizes], ?_, ?_⟩ <;> rw [List.length_append] <;> omega

/-- Where every field fits, none is cut off. -/
theorem FirstCut.inside {fs : List (Nat × FailField)} {bs : List Byte} {field : FailField} {n p : Nat}
    (h : FirstCut fs bs field n p) : bs.length < sizes fs := by
  obtain ⟨before, after, rfl, rfl, -, h4⟩ := h
  simp only [sizes_append, sizes_cons]
  simp only [sizes]
  omega

/-- The first field that is cut off is one. -/
theorem FirstCut.unique {fs : List (Nat × FailField)} {bs : List Byte} {field field' : FailField} {n n' p p' : Nat}
    (h : FirstCut fs bs field n p) (h' : FirstCut fs bs field' n' p') : field = field' ∧ n = n' ∧ p = p' := by
  obtain ⟨before, after, rfl, rfl, h3, h4⟩ := h
  obtain ⟨before', after', he, rfl, h3', h4'⟩ := h'
  obtain ⟨mid, hm⟩ | ⟨mid, hm⟩ := List.append_eq_append_iff.1 he |>.imp
    (fun ⟨as, h1, h2⟩ => (⟨as, h1, h2⟩ : ∃ as, before' = before ++ as ∧ (n, field) :: after = as ++ (n', field') :: after'))
    (fun ⟨as, h1, h2⟩ => (⟨as, h1, h2⟩ : ∃ as, before = before' ++ as ∧ (n', field') :: after' = as ++ (n, field) :: after))
  all_goals
    obtain ⟨rfl, hc⟩ := hm
    cases mid with
    | nil => cases hc; exact ⟨rfl, rfl, by simp⟩
    | cons c mid =>
      cases hc
      simp only [List.map_append, List.map_cons, List.sum_append, List.sum_cons] at h3 h4 h3' h4'
      omega

/-! ## The readers -/

/-- The answer of a reader that reads these fields from `bs`, which stands at `pos`. -/
def Follows {α : Type} (fields : List (Nat × FailField)) (pos : Nat) (bs : List Byte) :
    Except DecodeError (α × List Byte) → Prop
  | .ok (_, rest) => ∃ pre, bs = pre ++ rest ∧ pre.length = sizes fields
  | .error e => ∃ field n p, FirstCut fields bs field n p ∧ e = .truncated field (pos + p) (bs.drop p)

theorem Follows.error_right {α β : Type} {fs gs : List (Nat × FailField)} {pos : Nat} {bs : List Byte}
    {e : DecodeError} (h : Follows (α := α) fs pos bs (.error e)) :
    Follows (α := β) (fs ++ gs) pos bs (.error e) := by
  obtain ⟨field, n, p, hc, he⟩ := h
  exact ⟨field, n, p, hc.right, he⟩

/-- Reading `gs` after `pre`, which is the fields `fs`. -/
theorem Follows.left {α : Type} {fs gs : List (Nat × FailField)} {pos q : Nat} {pre bs : List Byte}
    {r : Except DecodeError (α × List Byte)} (hp : pre.length = sizes fs) (hq : q = pos + pre.length)
    (h : Follows gs q bs r) : Follows (fs ++ gs) pos (pre ++ bs) r := by
  subst hq
  cases r with
  | ok x =>
    obtain ⟨pre', rfl, h2⟩ := h
    exact ⟨pre ++ pre', by simp, by simp [hp, h2]⟩
  | error e =>
    obtain ⟨field, n, p, hc, rfl⟩ := h
    exact ⟨field, n, _, hc.left hp, by simp [List.drop_append, Nat.add_assoc]⟩

theorem readField_follows {field : FailField} {n pos : Nat} {bs : List Byte} (hn : n = 0 ∨ n = 1 ∨ n = 2 ∨ n = 4) :
    Follows [(n, field)] pos bs (readField field n pos bs) := by
  cases h : readField field n pos bs with
  | ok x =>
    obtain ⟨h1, h2⟩ := readField_ok h
    exact ⟨x.1.bytes, h2, by rw [Field.length_bytes, h1]; simp⟩
  | error e =>
    obtain ⟨rfl, h2⟩ := readField_error hn h
    exact ⟨field, n, 0, .here h2, rfl⟩

theorem readDisp_follows {sib : Option Sib} {n pos : Nat} {bs : List Byte} (hn : n = 0 ∨ n = 1 ∨ n = 2 ∨ n = 4) :
    Follows [(n, .displacement)] pos bs (readDisp sib n pos bs) := by
  have h := readField_follows (field := .displacement) (pos := pos) (bs := bs) hn
  unfold readDisp
  split <;> rename_i hr <;> rw [hr] at h <;> exact h

theorem readMemory_follows {a : Attrs} {d : OpcodeDescriptor} {b : Byte} {pos : Nat} {bs : List Byte}
    (hm : needsMemory d (ModRM.ofByte b) = true) :
    Follows (memoryFields a d (b :: bs)) pos bs (readMemory a.asz (ModRM.ofByte b) pos bs) := by
  have hn : ¬ (b.extractLsb' 6 2 = 3#2 ∨ d.specs.any Spec.readsMem = false) := by
    simpa [needsMemory, ModRM.ofByte] using hm
  have h16 := dispSize16_cases (b.extractLsb' 6 2) (b.extractLsb' 0 3)
  have h32 : ∀ r, _ := dispSize32_cases (b.extractLsb' 6 2)
  unfold readMemory memoryFields
  simp only [if_neg hn]
  cases a.asz with
  | s16 => exact readDisp_follows h16
  | s32 =>
    simp only [sibFollows_s32, decide_eq_true_eq]
    by_cases hr : b.extractLsb' 0 3 = 4#3
    · have hr' : (ModRM.ofByte b).rm = 4#3 := hr
      rw [if_pos hr, if_pos hr']
      cases bs with
      | nil => exact ⟨.sib, 1, 0, .here (by simp), rfl⟩
      | cons s rest =>
        refine Follows.left (fs := [(1, .sib)]) (pre := [s]) rfl rfl ?_
        exact readDisp_follows (h32 (Sib.ofByte s).base)
    · have hr' : ¬ (ModRM.ofByte b).rm = 4#3 := hr
      rw [if_neg hr, if_neg hr']
      exact readDisp_follows (h32 (ModRM.ofByte b).rm)

theorem readTrailing_follows {a : Attrs} {specs : List Spec} {pos : Nat} {bs : List Byte} :
    Follows (specs.filterMap (Spec.trailing? a)) pos bs (readTrailing a specs pos bs) := by
  induction specs generalizing pos bs with
  | nil => exact ⟨[], rfl, rfl⟩
  | cons sp sps ih =>
    unfold readTrailing
    cases ht : sp.trailing? a with
    | none => simpa only [List.filterMap_cons, ht] using ih
    | some nf =>
      obtain ⟨n, field⟩ := nf
      simp only [List.filterMap_cons, ht]
      have hf := readField_follows (field := field) (pos := pos) (bs := bs) (Or.inr (trailing_size ht))
      rw [← List.singleton_append]
      cases hr : readField field n pos bs with
      | error e => rw [hr] at hf; exact hf.error_right
      | ok x =>
        obtain ⟨f, rest⟩ := x
        obtain ⟨h1, rfl⟩ := readField_ok hr
        have ht := ih (pos := pos + n) (bs := rest)
        simp only
        cases hr' : readTrailing a sps (pos + n) rest with
        | error e =>
          rw [hr'] at ht
          exact Follows.left (by rw [Field.length_bytes, h1]; simp) (by rw [Field.length_bytes, h1]) ht
        | ok y =>
          rw [hr'] at ht
          obtain ⟨pre, h2, h3⟩ := ht
          exact ⟨f.bytes ++ pre, by simp [h2], by simp [Field.length_bytes, h1, h3]⟩

theorem readRest_follows {a : Attrs} {d : OpcodeDescriptor} {m : Option ModRM} {sib : Option Sib} {disp : Field}
    {pos : Nat} {bs : List Byte} :
    Follows (d.specs.filterMap (Spec.trailing? a)) pos bs (readRest a d m sib disp pos bs) := by
  have h := readTrailing_follows (a := a) (specs := d.specs) (pos := pos) (bs := bs)
  unfold readRest
  split <;> rename_i hr <;> rw [hr] at h <;> exact h

/-- The decoder reads the fields of a row in the order of `rowFields`, unless an S-class operand names no
register. -/
theorem readFields_follows {a : Attrs} {k : Key} {g : Bool} {d : OpcodeDescriptor} {pos : Nat} {bs : List Byte}
    (hs : ∀ b more, bs = b :: more → segmentMissing d (ModRM.ofByte b) = false ∨ needsModRM g d = false) :
    Follows (rowFields a g d bs) pos bs (readFields a k g d pos bs) := by
  unfold readFields rowFields
  change Follows ((if needsModRM g d then _ else _) ++ _) _ _ _
  by_cases hn : needsModRM g d = true
  · rw [if_pos hn, if_pos hn]
    cases bs with
    | nil => exact ⟨.modrm, 1, 0, .here (by simp), rfl⟩
    | cons b rest =>
      have hs := (hs b rest rfl).resolve_right (by simp [hn])
      refine Follows.left (fs := [(1, .modrm)]) (pre := [b]) (q := pos + 1) rfl rfl ?_
      simp only [hs, Bool.false_eq_true, if_false]
      by_cases hm : needsMemory d (ModRM.ofByte b) = true
      · rw [if_pos hm]
        have hf := readMemory_follows (a := a) (pos := pos + 1) (bs := rest) hm
        cases hr : readMemory a.asz (ModRM.ofByte b) (pos + 1) rest with
        | error e => rw [hr] at hf; exact hf.error_right
        | ok x =>
          obtain ⟨⟨sib, disp⟩, rest'⟩ := x
          rw [hr] at hf
          obtain ⟨pre, rfl, h2⟩ := hf
          refine Follows.left h2 ?_ readRest_follows
          have h3 := congrArg List.length (readMemory_ok hr).2
          simp only [List.length_append, Field.length_bytes] at h3
          have h4 : (sib.map Sib.toByte).toList.length = sib.toList.length := by cases sib <;> rfl
          omega
      · rw [if_neg hm]
        have he : memoryFields a d (b :: rest) = [] := by
          have hn : b.extractLsb' 6 2 = 3#2 ∨ d.specs.any Spec.readsMem = false := by
            simpa [needsMemory, ModRM.ofByte, Classical.or_iff_not_imp_left] using hm
          simp only [memoryFields, if_pos hn]
        rw [he]
        exact readRest_follows
  · rw [if_neg hn, if_neg hn]
    exact readRest_follows

end Sys2Proof.Machine
end

