-- ==== Sys2Proof/Tests/Slice0.lean ====
section
/-!
SUPPORT. Tests of the model: ill-formed terms the checks refuse; one word of every row of the opcode table,
written out bit by bit from the row's encoding in spec/opcode_table.json, that decodes to the row and is its
encoding; a few single steps on small states with results from 95_test_vectors.md; and for every obligation
with hypotheses a state that meets them all.
-/

namespace Sys2Proof.Tests

-- many kernel evaluations at once would each hold a thread's stack: one after another
set_option Elab.async false

open Sys2Proof Sys2Proof.Machine

/-! ## Ill-formed terms are refused -/

section WellFormed

/-- Both widths 16. -/
abbrev w16 : Attrs := ⟨.s16, .s16⟩
/-- Both widths 32. -/
abbrev w32 : Attrs := ⟨.s32, .s32⟩

-- mod 11 has no SIB byte and no displacement (R184)
theorem test_rm_register_with_sib : (Rm.wellFormed w32 ⟨3#2, 4#3, some ⟨0#2, 0#3, 0#3⟩, .absent⟩) = false := by
  decide
theorem test_rm_register_with_displacement : (Rm.wellFormed w16 ⟨3#2, 0#3, none, .f8 1#8⟩) = false := by decide
-- a SIB byte is there exactly at 32-bit addressing with rm 100 (R97)
theorem test_rm_sib_missing : (Rm.wellFormed w32 ⟨0#2, 4#3, none, .absent⟩) = false := by decide
theorem test_rm_sib_at_16 : (Rm.wellFormed w16 ⟨0#2, 4#3, some ⟨0#2, 0#3, 0#3⟩, .absent⟩) = false := by decide
-- displacement sizes (R96, R97, R98)
theorem test_rm_disp16_size : (Rm.wellFormed w16 ⟨0#2, 6#3, none, .f8 0#8⟩) = false := by decide
theorem test_rm_disp32_size : (Rm.wellFormed w32 ⟨2#2, 0#3, none, .f16 0#16⟩) = false := by decide
theorem test_rm_sib_disp_size : (Rm.wellFormed w32 ⟨0#2, 4#3, some ⟨0#2, 4#3, 5#3⟩, .absent⟩) = false := by decide
-- v fields are osz/8 bytes, direct offsets asz/8 (R124)
theorem test_operand_size_refused : (Instr.add_05 (.f32 1#32)).wellFormed w16 = false := by decide
theorem test_address_size_refused : (Instr.mov_A0 (.f16 1#16)).wellFormed w32 = false := by decide
theorem test_group_row_refused :
    (Instr.add_81_0 ⟨3#2, 0#3, none, .absent⟩ .absent).wellFormed w16 = false := by decide
-- a segment register number of 6 or 7 (R198)
theorem test_segment_number_refused : (Instr.mov_8C 6#3 ⟨3#2, 0#3, none, .absent⟩).wellFormed w16 = false ∧
    (Instr.mov_8E 7#3 ⟨3#2, 0#3, none, .absent⟩).wellFormed w16 = false := by decide
-- an opcode that has an entry is no unassigned one (R669, R670)
theorem test_assigned_refused : (Instr.unassignedOneByte 0x90#8).wellFormed w16 = false ∧
    (Instr.unassignedTwoByte 0x06#8).wellFormed w16 = false := by decide
-- R168: four specs; E with M; two reg readers; a reg reader in a group slot; R with E; a raised group flag
theorem test_descriptor_refused :
    (opcode "X" [.I .b, .I .b, .I .b, .I .b]).wellFormed false = false ∧
    (opcode "X" [.E .v, .M none]).wellFormed false = false ∧
    (opcode "X" [.G .v, .S .w]).wellFormed false = false ∧
    (opcode "X" [.G .v]).wellFormed true = false ∧
    (opcode "X" [.R .d, .E .v]).wellFormed false = false ∧
    (OpcodeDescriptor.mk "X" [] true).wellFormed false = false := by decide
-- a group of seven slots; a group slot that reads reg
theorem test_entry_refused : (Entry.group (List.replicate 7 none)).wellFormed = false ∧
    (Entry.group (some (opcode "X" [.C .d]) :: List.replicate 7 none)).wellFormed = false := by decide
-- a one-byte key 0F (R31); two entries at one key
theorem test_key_refused : (Key.one 0x0F#8).wellFormed = false := by decide
theorem test_table_refused :
    OpcodeTable.wellFormed [(.one 0x90#8, .desc (opcode "X" [])), (.one 0x90#8, .desc (opcode "Y" []))] = false ∧
    OpcodeTable.wellFormed [(.one 0x0F#8, .desc (opcode "X" []))] = false := by decide
-- a view with a hole (R70)
theorem test_view_refused : Memory.wf [(0, 1#8), (2, 1#8)] = false := by decide

end WellFormed

/-! ## One word of every row

The opcode and ModRM bytes are the row's encoding in spec/opcode_table.json with its letters filled in. -/

/-- At these widths the word decodes to the row, whole, and is the row's encoding. -/
noncomputable def reads (x : Attrs × List Byte × Instr) : Bool :=
  decide (decode x.1 x.2.1 = .ok (.row x.2.2, [])) && encode x.2.2 == x.2.1 && x.2.2.wellFormed x.1

/-- 26 to 03. -/
theorem test_words_00 : List.all ([
    (⟨.s16, .s16⟩, [0b00100110#8], .prefixES),
    (⟨.s16, .s16⟩, [0b00101110#8], .prefixCS),
    (⟨.s16, .s16⟩, [0b00110110#8], .prefixSS),
    (⟨.s16, .s16⟩, [0b00111110#8], .prefixDS),
    (⟨.s16, .s16⟩, [0b01100100#8], .prefixFS),
    (⟨.s16, .s16⟩, [0b01100101#8], .prefixGS),
    (⟨.s16, .s16⟩, [0b01100110#8], .prefixOPSIZE),
    (⟨.s16, .s16⟩, [0b01100111#8], .prefixADDRSIZE),
    (⟨.s16, .s16⟩, [0b11110000#8], .prefixLOCK),
    (⟨.s16, .s16⟩, [0b11110010#8], .prefixREPNE),
    (⟨.s16, .s16⟩, [0b11110011#8], .prefixREP),
    (⟨.s16, .s16⟩, [0b00001111#8], .escape0F),
    (⟨.s16, .s16⟩, [0b00000000#8, 0b11101001#8], .add_00 0b101#3 ⟨0b11#2, 0b001#3, none, .absent⟩),
    (⟨.s16, .s32⟩, [0b00000001#8, 0b11010110#8], .add_01 0b010#3 ⟨0b11#2, 0b110#3, none, .absent⟩),
    (⟨.s32, .s16⟩, [0b00000010#8, 0b11111001#8], .add_02 0b111#3 ⟨0b11#2, 0b001#3, none, .absent⟩),
    (⟨.s32, .s32⟩, [0b00000011#8, 0b11011110#8], .add_03 0b011#3 ⟨0b11#2, 0b110#3, none, .absent⟩)] : List (Attrs × List Byte × Instr)) reads = true := by decide +kernel

/-- 04 to 14. -/
theorem test_words_01 : List.all ([
    (⟨.s16, .s16⟩, [0b00000100#8, 0xA5#8], .add_04 0xA5#8),
    (⟨.s16, .s32⟩, [0b00000101#8, 0xA5#8, 0xC3#8], .add_05 (.f16 0xC3A5#16)),
    (⟨.s32, .s16⟩, [0b00000110#8], .push_06),
    (⟨.s32, .s32⟩, [0b00000111#8], .pop_07),
    (⟨.s16, .s16⟩, [0b00001000#8, 0b01101010#8, 0x80#8], .or_08 0b101#3 ⟨0b01#2, 0b010#3, none, .f8 0x80#8⟩),
    (⟨.s16, .s32⟩, [0b00001001#8, 0b01010100#8, 0b10001011#8, 0x80#8], .or_09 0b010#3 ⟨0b01#2, 0b100#3, some ⟨0b10#2, 0b001#3, 0b011#3⟩, .f8 0x80#8⟩),
    (⟨.s32, .s16⟩, [0b00001010#8, 0b01111010#8, 0x80#8], .or_0A 0b111#3 ⟨0b01#2, 0b010#3, none, .f8 0x80#8⟩),
    (⟨.s32, .s32⟩, [0b00001011#8, 0b01011100#8, 0b10001011#8, 0x80#8], .or_0B 0b011#3 ⟨0b01#2, 0b100#3, some ⟨0b10#2, 0b001#3, 0b011#3⟩, .f8 0x80#8⟩),
    (⟨.s16, .s16⟩, [0b00001100#8, 0xA5#8], .or_0C 0xA5#8),
    (⟨.s16, .s32⟩, [0b00001101#8, 0xA5#8, 0xC3#8], .or_0D (.f16 0xC3A5#16)),
    (⟨.s32, .s16⟩, [0b00001110#8], .push_0E),
    (⟨.s32, .s32⟩, [0b00010000#8, 0b00000100#8, 0b01110101#8, 0x00#8, 0x01#8, 0x02#8, 0x03#8], .adc_10 0b000#3 ⟨0b00#2, 0b100#3, some ⟨0b01#2, 0b110#3, 0b101#3⟩, .f32 0x03020100#32⟩),
    (⟨.s16, .s16⟩, [0b00010001#8, 0b00101101#8], .adc_11 0b101#3 ⟨0b00#2, 0b101#3, none, .absent⟩),
    (⟨.s16, .s32⟩, [0b00010010#8, 0b10010000#8, 0x00#8, 0x00#8, 0x00#8, 0x80#8], .adc_12 0b010#3 ⟨0b10#2, 0b000#3, none, .f32 0x80000000#32⟩),
    (⟨.s32, .s16⟩, [0b00010011#8, 0b00111101#8], .adc_13 0b111#3 ⟨0b00#2, 0b101#3, none, .absent⟩),
    (⟨.s32, .s32⟩, [0b00010100#8, 0xA5#8], .adc_14 0xA5#8)] : List (Attrs × List Byte × Instr)) reads = true := by decide +kernel

/-- 15 to 24. -/
theorem test_words_02 : List.all ([
    (⟨.s16, .s16⟩, [0b00010101#8, 0xA5#8, 0xC3#8], .adc_15 (.f16 0xC3A5#16)),
    (⟨.s16, .s32⟩, [0b00010110#8], .push_16),
    (⟨.s32, .s16⟩, [0b00010111#8], .pop_17),
    (⟨.s32, .s32⟩, [0b00011000#8, 0b11000110#8], .sbb_18 0b000#3 ⟨0b11#2, 0b110#3, none, .absent⟩),
    (⟨.s16, .s16⟩, [0b00011001#8, 0b00101110#8, 0x34#8, 0x12#8], .sbb_19 0b101#3 ⟨0b00#2, 0b110#3, none, .f16 0x1234#16⟩),
    (⟨.s16, .s32⟩, [0b00011010#8, 0b00010101#8, 0x78#8, 0x56#8, 0x34#8, 0x12#8], .sbb_1A 0b010#3 ⟨0b00#2, 0b101#3, none, .f32 0x12345678#32⟩),
    (⟨.s32, .s16⟩, [0b00011011#8, 0b00111110#8, 0x34#8, 0x12#8], .sbb_1B 0b111#3 ⟨0b00#2, 0b110#3, none, .f16 0x1234#16⟩),
    (⟨.s32, .s32⟩, [0b00011100#8, 0xA5#8], .sbb_1C 0xA5#8),
    (⟨.s16, .s16⟩, [0b00011101#8, 0xA5#8, 0xC3#8], .sbb_1D (.f16 0xC3A5#16)),
    (⟨.s16, .s32⟩, [0b00011110#8], .push_1E),
    (⟨.s32, .s16⟩, [0b00011111#8], .pop_1F),
    (⟨.s32, .s32⟩, [0b00100000#8, 0b01000100#8, 0b10001011#8, 0x80#8], .and_20 0b000#3 ⟨0b01#2, 0b100#3, some ⟨0b10#2, 0b001#3, 0b011#3⟩, .f8 0x80#8⟩),
    (⟨.s16, .s16⟩, [0b00100001#8, 0b10101111#8, 0xFE#8, 0xFF#8], .and_21 0b101#3 ⟨0b10#2, 0b111#3, none, .f16 0xFFFE#16⟩),
    (⟨.s16, .s32⟩, [0b00100010#8, 0b00010100#8, 0b01110101#8, 0x00#8, 0x01#8, 0x02#8, 0x03#8], .and_22 0b010#3 ⟨0b00#2, 0b100#3, some ⟨0b01#2, 0b110#3, 0b101#3⟩, .f32 0x03020100#32⟩),
    (⟨.s32, .s16⟩, [0b00100011#8, 0b10111111#8, 0xFE#8, 0xFF#8], .and_23 0b111#3 ⟨0b10#2, 0b111#3, none, .f16 0xFFFE#16⟩),
    (⟨.s32, .s32⟩, [0b00100100#8, 0xA5#8], .and_24 0xA5#8)] : List (Attrs × List Byte × Instr)) reads = true := by decide +kernel

/-- 25 to 37. -/
theorem test_words_03 : List.all ([
    (⟨.s16, .s16⟩, [0b00100101#8, 0xA5#8, 0xC3#8], .and_25 (.f16 0xC3A5#16)),
    (⟨.s16, .s32⟩, [0b00100111#8], .daa_27),
    (⟨.s32, .s16⟩, [0b00101000#8, 0b00100101#8], .sub_28 0b100#3 ⟨0b00#2, 0b101#3, none, .absent⟩),
    (⟨.s32, .s32⟩, [0b00101001#8, 0b10000000#8, 0x00#8, 0x00#8, 0x00#8, 0x80#8], .sub_29 0b000#3 ⟨0b10#2, 0b000#3, none, .f32 0x80000000#32⟩),
    (⟨.s16, .s16⟩, [0b00101010#8, 0b11101001#8], .sub_2A 0b101#3 ⟨0b11#2, 0b001#3, none, .absent⟩),
    (⟨.s16, .s32⟩, [0b00101011#8, 0b11010110#8], .sub_2B 0b010#3 ⟨0b11#2, 0b110#3, none, .absent⟩),
    (⟨.s32, .s16⟩, [0b00101100#8, 0xA5#8], .sub_2C 0xA5#8),
    (⟨.s32, .s32⟩, [0b00101101#8, 0xA5#8, 0xC3#8, 0xC2#8, 0x01#8], .sub_2D (.f32 0x01C2C3A5#32)),
    (⟨.s16, .s16⟩, [0b00101111#8], .das_2F),
    (⟨.s16, .s32⟩, [0b00110000#8, 0b00001101#8, 0x78#8, 0x56#8, 0x34#8, 0x12#8], .xor_30 0b001#3 ⟨0b00#2, 0b101#3, none, .f32 0x12345678#32⟩),
    (⟨.s32, .s16⟩, [0b00110001#8, 0b00100110#8, 0x34#8, 0x12#8], .xor_31 0b100#3 ⟨0b00#2, 0b110#3, none, .f16 0x1234#16⟩),
    (⟨.s32, .s32⟩, [0b00110010#8, 0b00000101#8, 0x78#8, 0x56#8, 0x34#8, 0x12#8], .xor_32 0b000#3 ⟨0b00#2, 0b101#3, none, .f32 0x12345678#32⟩),
    (⟨.s16, .s16⟩, [0b00110011#8, 0b01101010#8, 0x80#8], .xor_33 0b101#3 ⟨0b01#2, 0b010#3, none, .f8 0x80#8⟩),
    (⟨.s16, .s32⟩, [0b00110100#8, 0xA5#8], .xor_34 0xA5#8),
    (⟨.s32, .s16⟩, [0b00110101#8, 0xA5#8, 0xC3#8, 0xC2#8, 0x01#8], .xor_35 (.f32 0x01C2C3A5#32)),
    (⟨.s32, .s32⟩, [0b00110111#8], .aaa_37)] : List (Attrs × List Byte × Instr)) reads = true := by decide +kernel

/-- 38 to 68. -/
theorem test_words_04 : List.all ([
    (⟨.s16, .s16⟩, [0b00111000#8, 0b10110111#8, 0xFE#8, 0xFF#8], .cmp_38 0b110#3 ⟨0b10#2, 0b111#3, none, .f16 0xFFFE#16⟩),
    (⟨.s16, .s32⟩, [0b00111001#8, 0b00001100#8, 0b01110101#8, 0x00#8, 0x01#8, 0x02#8, 0x03#8], .cmp_39 0b001#3 ⟨0b00#2, 0b100#3, some ⟨0b01#2, 0b110#3, 0b101#3⟩, .f32 0x03020100#32⟩),
    (⟨.s32, .s16⟩, [0b00111010#8, 0b10100111#8, 0xFE#8, 0xFF#8], .cmp_3A 0b100#3 ⟨0b10#2, 0b111#3, none, .f16 0xFFFE#16⟩),
    (⟨.s32, .s32⟩, [0b00111011#8, 0b00000100#8, 0b01110101#8, 0x00#8, 0x01#8, 0x02#8, 0x03#8], .cmp_3B 0b000#3 ⟨0b00#2, 0b100#3, some ⟨0b01#2, 0b110#3, 0b101#3⟩, .f32 0x03020100#32⟩),
    (⟨.s16, .s16⟩, [0b00111100#8, 0xA5#8], .cmp_3C 0xA5#8),
    (⟨.s16, .s32⟩, [0b00111101#8, 0xA5#8, 0xC3#8], .cmp_3D (.f16 0xC3A5#16)),
    (⟨.s32, .s16⟩, [0b00111111#8], .aas_3F),
    (⟨.s32, .s32⟩, [0b01000011#8], .inc_40 0b011#3),
    (⟨.s16, .s16⟩, [0b01001110#8], .dec_48 0b110#3),
    (⟨.s16, .s32⟩, [0b01010001#8], .push_50 0b001#3),
    (⟨.s32, .s16⟩, [0b01011100#8], .pop_58 0b100#3),
    (⟨.s32, .s32⟩, [0b01100000#8], .pusha_60),
    (⟨.s16, .s16⟩, [0b01100001#8], .popa_61),
    (⟨.s16, .s32⟩, [0b01100010#8, 0b00010101#8, 0x78#8, 0x56#8, 0x34#8, 0x12#8], .bound_62 0b010#3 ⟨0b00#2, 0b101#3, none, .f32 0x12345678#32⟩),
    (⟨.s32, .s16⟩, [0b01100011#8, 0b00111110#8, 0x34#8, 0x12#8], .arpl_63 0b111#3 ⟨0b00#2, 0b110#3, none, .f16 0x1234#16⟩),
    (⟨.s32, .s32⟩, [0b01101000#8, 0xA5#8, 0xC3#8, 0xC2#8, 0x01#8], .push_68 (.f32 0x01C2C3A5#32))] : List (Attrs × List Byte × Instr)) reads = true := by decide +kernel

/-- 69 to 78. -/
theorem test_words_05 : List.all ([
    (⟨.s16, .s16⟩, [0b01101001#8, 0b01110010#8, 0x80#8, 0xA5#8, 0xC3#8], .imul_69 0b110#3 ⟨0b01#2, 0b010#3, none, .f8 0x80#8⟩ (.f16 0xC3A5#16)),
    (⟨.s16, .s32⟩, [0b01101010#8, 0xA5#8], .push_6A 0xA5#8),
    (⟨.s32, .s16⟩, [0b01101011#8, 0b01100010#8, 0x80#8, 0xA5#8], .imul_6B 0b100#3 ⟨0b01#2, 0b010#3, none, .f8 0x80#8⟩ 0xA5#8),
    (⟨.s32, .s32⟩, [0b01101100#8], .insb_6C),
    (⟨.s16, .s16⟩, [0b01101101#8], .insw_6D),
    (⟨.s16, .s32⟩, [0b01101110#8], .outsb_6E),
    (⟨.s32, .s16⟩, [0b01101111#8], .outsw_6F),
    (⟨.s32, .s32⟩, [0b01110000#8, 0xA5#8], .jo_70 0xA5#8),
    (⟨.s16, .s16⟩, [0b01110001#8, 0xA5#8], .jno_71 0xA5#8),
    (⟨.s16, .s32⟩, [0b01110010#8, 0xA5#8], .jb_72 0xA5#8),
    (⟨.s32, .s16⟩, [0b01110011#8, 0xA5#8], .jnb_73 0xA5#8),
    (⟨.s32, .s32⟩, [0b01110100#8, 0xA5#8], .jz_74 0xA5#8),
    (⟨.s16, .s16⟩, [0b01110101#8, 0xA5#8], .jnz_75 0xA5#8),
    (⟨.s16, .s32⟩, [0b01110110#8, 0xA5#8], .jbe_76 0xA5#8),
    (⟨.s32, .s16⟩, [0b01110111#8, 0xA5#8], .jnbe_77 0xA5#8),
    (⟨.s32, .s32⟩, [0b01111000#8, 0xA5#8], .js_78 0xA5#8)] : List (Attrs × List Byte × Instr)) reads = true := by decide +kernel

/-- 79 to 81 /0. -/
theorem test_words_06 : List.all ([
    (⟨.s16, .s16⟩, [0b01111001#8, 0xA5#8], .jns_79 0xA5#8),
    (⟨.s16, .s32⟩, [0b01111010#8, 0xA5#8], .jp_7A 0xA5#8),
    (⟨.s32, .s16⟩, [0b01111011#8, 0xA5#8], .jnp_7B 0xA5#8),
    (⟨.s32, .s32⟩, [0b01111100#8, 0xA5#8], .jl_7C 0xA5#8),
    (⟨.s16, .s16⟩, [0b01111101#8, 0xA5#8], .jnl_7D 0xA5#8),
    (⟨.s16, .s32⟩, [0b01111110#8, 0xA5#8], .jle_7E 0xA5#8),
    (⟨.s32, .s16⟩, [0b01111111#8, 0xA5#8], .jnle_7F 0xA5#8),
    (⟨.s32, .s32⟩, [0b10000000#8, 0b01000100#8, 0b10001011#8, 0x80#8, 0xA5#8], .add_80_0 ⟨0b01#2, 0b100#3, some ⟨0b10#2, 0b001#3, 0b011#3⟩, .f8 0x80#8⟩ 0xA5#8),
    (⟨.s16, .s16⟩, [0b10000000#8, 0b10001111#8, 0xFE#8, 0xFF#8, 0xA5#8], .or_80_1 ⟨0b10#2, 0b111#3, none, .f16 0xFFFE#16⟩ 0xA5#8),
    (⟨.s16, .s32⟩, [0b10000000#8, 0b00010100#8, 0b01110101#8, 0x00#8, 0x01#8, 0x02#8, 0x03#8, 0xA5#8], .adc_80_2 ⟨0b00#2, 0b100#3, some ⟨0b01#2, 0b110#3, 0b101#3⟩, .f32 0x03020100#32⟩ 0xA5#8),
    (⟨.s32, .s16⟩, [0b10000000#8, 0b10011111#8, 0xFE#8, 0xFF#8, 0xA5#8], .sbb_80_3 ⟨0b10#2, 0b111#3, none, .f16 0xFFFE#16⟩ 0xA5#8),
    (⟨.s32, .s32⟩, [0b10000000#8, 0b00100100#8, 0b01110101#8, 0x00#8, 0x01#8, 0x02#8, 0x03#8, 0xA5#8], .and_80_4 ⟨0b00#2, 0b100#3, some ⟨0b01#2, 0b110#3, 0b101#3⟩, .f32 0x03020100#32⟩ 0xA5#8),
    (⟨.s16, .s16⟩, [0b10000000#8, 0b00101101#8, 0xA5#8], .sub_80_5 ⟨0b00#2, 0b101#3, none, .absent⟩ 0xA5#8),
    (⟨.s16, .s32⟩, [0b10000000#8, 0b10110000#8, 0x00#8, 0x00#8, 0x00#8, 0x80#8, 0xA5#8], .xor_80_6 ⟨0b10#2, 0b000#3, none, .f32 0x80000000#32⟩ 0xA5#8),
    (⟨.s32, .s16⟩, [0b10000000#8, 0b00111101#8, 0xA5#8], .cmp_80_7 ⟨0b00#2, 0b101#3, none, .absent⟩ 0xA5#8),
    (⟨.s32, .s32⟩, [0b10000001#8, 0b10000000#8, 0x00#8, 0x00#8, 0x00#8, 0x80#8, 0xA5#8, 0xC3#8, 0xC2#8, 0x01#8], .add_81_0 ⟨0b10#2, 0b000#3, none, .f32 0x80000000#32⟩ (.f32 0x01C2C3A5#32))] : List (Attrs × List Byte × Instr)) reads = true := by decide +kernel

/-- 81 /1 to 83 /0. -/
theorem test_words_07 : List.all ([
    (⟨.s16, .s16⟩, [0b10000001#8, 0b11001001#8, 0xA5#8, 0xC3#8], .or_81_1 ⟨0b11#2, 0b001#3, none, .absent⟩ (.f16 0xC3A5#16)),
    (⟨.s16, .s32⟩, [0b10000001#8, 0b11010110#8, 0xA5#8, 0xC3#8], .adc_81_2 ⟨0b11#2, 0b110#3, none, .absent⟩ (.f16 0xC3A5#16)),
    (⟨.s32, .s16⟩, [0b10000001#8, 0b11011001#8, 0xA5#8, 0xC3#8, 0xC2#8, 0x01#8], .sbb_81_3 ⟨0b11#2, 0b001#3, none, .absent⟩ (.f32 0x01C2C3A5#32)),
    (⟨.s32, .s32⟩, [0b10000001#8, 0b11100110#8, 0xA5#8, 0xC3#8, 0xC2#8, 0x01#8], .and_81_4 ⟨0b11#2, 0b110#3, none, .absent⟩ (.f32 0x01C2C3A5#32)),
    (⟨.s16, .s16⟩, [0b10000001#8, 0b00101110#8, 0x34#8, 0x12#8, 0xA5#8, 0xC3#8], .sub_81_5 ⟨0b00#2, 0b110#3, none, .f16 0x1234#16⟩ (.f16 0xC3A5#16)),
    (⟨.s16, .s32⟩, [0b10000001#8, 0b00110101#8, 0x78#8, 0x56#8, 0x34#8, 0x12#8, 0xA5#8, 0xC3#8], .xor_81_6 ⟨0b00#2, 0b101#3, none, .f32 0x12345678#32⟩ (.f16 0xC3A5#16)),
    (⟨.s32, .s16⟩, [0b10000001#8, 0b00111110#8, 0x34#8, 0x12#8, 0xA5#8, 0xC3#8, 0xC2#8, 0x01#8], .cmp_81_7 ⟨0b00#2, 0b110#3, none, .f16 0x1234#16⟩ (.f32 0x01C2C3A5#32)),
    (⟨.s32, .s32⟩, [0b10000010#8, 0b00000101#8, 0x78#8, 0x56#8, 0x34#8, 0x12#8, 0xA5#8], .add_82_0 ⟨0b00#2, 0b101#3, none, .f32 0x12345678#32⟩ 0xA5#8),
    (⟨.s16, .s16⟩, [0b10000010#8, 0b01001010#8, 0x80#8, 0xA5#8], .or_82_1 ⟨0b01#2, 0b010#3, none, .f8 0x80#8⟩ 0xA5#8),
    (⟨.s16, .s32⟩, [0b10000010#8, 0b01010100#8, 0b10001011#8, 0x80#8, 0xA5#8], .adc_82_2 ⟨0b01#2, 0b100#3, some ⟨0b10#2, 0b001#3, 0b011#3⟩, .f8 0x80#8⟩ 0xA5#8),
    (⟨.s32, .s16⟩, [0b10000010#8, 0b01011010#8, 0x80#8, 0xA5#8], .sbb_82_3 ⟨0b01#2, 0b010#3, none, .f8 0x80#8⟩ 0xA5#8),
    (⟨.s32, .s32⟩, [0b10000010#8, 0b01100100#8, 0b10001011#8, 0x80#8, 0xA5#8], .and_82_4 ⟨0b01#2, 0b100#3, some ⟨0b10#2, 0b001#3, 0b011#3⟩, .f8 0x80#8⟩ 0xA5#8),
    (⟨.s16, .s16⟩, [0b10000010#8, 0b10101111#8, 0xFE#8, 0xFF#8, 0xA5#8], .sub_82_5 ⟨0b10#2, 0b111#3, none, .f16 0xFFFE#16⟩ 0xA5#8),
    (⟨.s16, .s32⟩, [0b10000010#8, 0b00110100#8, 0b01110101#8, 0x00#8, 0x01#8, 0x02#8, 0x03#8, 0xA5#8], .xor_82_6 ⟨0b00#2, 0b100#3, some ⟨0b01#2, 0b110#3, 0b101#3⟩, .f32 0x03020100#32⟩ 0xA5#8),
    (⟨.s32, .s16⟩, [0b10000010#8, 0b10111111#8, 0xFE#8, 0xFF#8, 0xA5#8], .cmp_82_7 ⟨0b10#2, 0b111#3, none, .f16 0xFFFE#16⟩ 0xA5#8),
    (⟨.s32, .s32⟩, [0b10000011#8, 0b00000100#8, 0b01110101#8, 0x00#8, 0x01#8, 0x02#8, 0x03#8, 0xA5#8], .add_83_0 ⟨0b00#2, 0b100#3, some ⟨0b01#2, 0b110#3, 0b101#3⟩, .f32 0x03020100#32⟩ 0xA5#8)] : List (Attrs × List Byte × Instr)) reads = true := by decide +kernel

/-- 83 /1 to 8C. -/
theorem test_words_08 : List.all ([
    (⟨.s16, .s16⟩, [0b10000011#8, 0b00001101#8, 0xA5#8], .or_83_1 ⟨0b00#2, 0b101#3, none, .absent⟩ 0xA5#8),
    (⟨.s16, .s32⟩, [0b10000011#8, 0b10010000#8, 0x00#8, 0x00#8, 0x00#8, 0x80#8, 0xA5#8], .adc_83_2 ⟨0b10#2, 0b000#3, none, .f32 0x80000000#32⟩ 0xA5#8),
    (⟨.s32, .s16⟩, [0b10000011#8, 0b00011101#8, 0xA5#8], .sbb_83_3 ⟨0b00#2, 0b101#3, none, .absent⟩ 0xA5#8),
    (⟨.s32, .s32⟩, [0b10000011#8, 0b10100000#8, 0x00#8, 0x00#8, 0x00#8, 0x80#8, 0xA5#8], .and_83_4 ⟨0b10#2, 0b000#3, none, .f32 0x80000000#32⟩ 0xA5#8),
    (⟨.s16, .s16⟩, [0b10000011#8, 0b11101001#8, 0xA5#8], .sub_83_5 ⟨0b11#2, 0b001#3, none, .absent⟩ 0xA5#8),
    (⟨.s16, .s32⟩, [0b10000011#8, 0b11110110#8, 0xA5#8], .xor_83_6 ⟨0b11#2, 0b110#3, none, .absent⟩ 0xA5#8),
    (⟨.s32, .s16⟩, [0b10000011#8, 0b11111001#8, 0xA5#8], .cmp_83_7 ⟨0b11#2, 0b001#3, none, .absent⟩ 0xA5#8),
    (⟨.s32, .s32⟩, [0b10000100#8, 0b11011110#8], .test_84 0b011#3 ⟨0b11#2, 0b110#3, none, .absent⟩),
    (⟨.s16, .s16⟩, [0b10000101#8, 0b00110110#8, 0x34#8, 0x12#8], .test_85 0b110#3 ⟨0b00#2, 0b110#3, none, .f16 0x1234#16⟩),
    (⟨.s16, .s32⟩, [0b10000110#8, 0b00001101#8, 0x78#8, 0x56#8, 0x34#8, 0x12#8], .xchg_86 0b001#3 ⟨0b00#2, 0b101#3, none, .f32 0x12345678#32⟩),
    (⟨.s32, .s16⟩, [0b10000111#8, 0b00100110#8, 0x34#8, 0x12#8], .xchg_87 0b100#3 ⟨0b00#2, 0b110#3, none, .f16 0x1234#16⟩),
    (⟨.s32, .s32⟩, [0b10001000#8, 0b00000101#8, 0x78#8, 0x56#8, 0x34#8, 0x12#8], .mov_88 0b000#3 ⟨0b00#2, 0b101#3, none, .f32 0x12345678#32⟩),
    (⟨.s16, .s16⟩, [0b10001001#8, 0b01101010#8, 0x80#8], .mov_89 0b101#3 ⟨0b01#2, 0b010#3, none, .f8 0x80#8⟩),
    (⟨.s16, .s32⟩, [0b10001010#8, 0b01010100#8, 0b10001011#8, 0x80#8], .mov_8A 0b010#3 ⟨0b01#2, 0b100#3, some ⟨0b10#2, 0b001#3, 0b011#3⟩, .f8 0x80#8⟩),
    (⟨.s32, .s16⟩, [0b10001011#8, 0b01111010#8, 0x80#8], .mov_8B 0b111#3 ⟨0b01#2, 0b010#3, none, .f8 0x80#8⟩),
    (⟨.s32, .s32⟩, [0b10001100#8, 0b01101100#8, 0b10001011#8, 0x80#8], .mov_8C 0b101#3 ⟨0b01#2, 0b100#3, some ⟨0b10#2, 0b001#3, 0b011#3⟩, .f8 0x80#8⟩)] : List (Attrs × List Byte × Instr)) reads = true := by decide +kernel

/-- 8D to 9C. -/
theorem test_words_09 : List.all ([
    (⟨.s16, .s16⟩, [0b10001101#8, 0b10110111#8, 0xFE#8, 0xFF#8], .lea_8D 0b110#3 ⟨0b10#2, 0b111#3, none, .f16 0xFFFE#16⟩),
    (⟨.s16, .s32⟩, [0b10001110#8, 0b00101100#8, 0b01110101#8, 0x00#8, 0x01#8, 0x02#8, 0x03#8], .mov_8E 0b101#3 ⟨0b00#2, 0b100#3, some ⟨0b01#2, 0b110#3, 0b101#3⟩, .f32 0x03020100#32⟩),
    (⟨.s32, .s16⟩, [0b10001111#8, 0b10000111#8, 0xFE#8, 0xFF#8], .pop_8F_0 ⟨0b10#2, 0b111#3, none, .f16 0xFFFE#16⟩),
    (⟨.s32, .s32⟩, [0b10010000#8], .nop_90),
    (⟨.s16, .s16⟩, [0b10010001#8], .xchg_91),
    (⟨.s16, .s32⟩, [0b10010010#8], .xchg_92),
    (⟨.s32, .s16⟩, [0b10010011#8], .xchg_93),
    (⟨.s32, .s32⟩, [0b10010100#8], .xchg_94),
    (⟨.s16, .s16⟩, [0b10010101#8], .xchg_95),
    (⟨.s16, .s32⟩, [0b10010110#8], .xchg_96),
    (⟨.s32, .s16⟩, [0b10010111#8], .xchg_97),
    (⟨.s32, .s32⟩, [0b10011000#8], .cbw_98),
    (⟨.s16, .s16⟩, [0b10011001#8], .cwd_99),
    (⟨.s16, .s32⟩, [0b10011010#8, 0xA5#8, 0xC3#8, 0xA5#8, 0xC3#8], .callf_9A (.f16 0xC3A5#16) 0xC3A5#16),
    (⟨.s32, .s16⟩, [0b10011011#8], .wait_9B),
    (⟨.s32, .s32⟩, [0b10011100#8], .pushf_9C)] : List (Attrs × List Byte × Instr)) reads = true := by decide +kernel

/-- 9D to AC. -/
theorem test_words_10 : List.all ([
    (⟨.s16, .s16⟩, [0b10011101#8], .popf_9D),
    (⟨.s16, .s32⟩, [0b10011110#8], .sahf_9E),
    (⟨.s32, .s16⟩, [0b10011111#8], .lahf_9F),
    (⟨.s32, .s32⟩, [0b10100000#8, 0xA5#8, 0xC3#8, 0xC2#8, 0x01#8], .mov_A0 (.f32 0x01C2C3A5#32)),
    (⟨.s16, .s16⟩, [0b10100001#8, 0xA5#8, 0xC3#8], .mov_A1 (.f16 0xC3A5#16)),
    (⟨.s16, .s32⟩, [0b10100010#8, 0xA5#8, 0xC3#8, 0xC2#8, 0x01#8], .mov_A2 (.f32 0x01C2C3A5#32)),
    (⟨.s32, .s16⟩, [0b10100011#8, 0xA5#8, 0xC3#8], .mov_A3 (.f16 0xC3A5#16)),
    (⟨.s32, .s32⟩, [0b10100100#8], .movsb_A4),
    (⟨.s16, .s16⟩, [0b10100101#8], .movsw_A5),
    (⟨.s16, .s32⟩, [0b10100110#8], .cmpsb_A6),
    (⟨.s32, .s16⟩, [0b10100111#8], .cmpsw_A7),
    (⟨.s32, .s32⟩, [0b10101000#8, 0xA5#8], .test_A8 0xA5#8),
    (⟨.s16, .s16⟩, [0b10101001#8, 0xA5#8, 0xC3#8], .test_A9 (.f16 0xC3A5#16)),
    (⟨.s16, .s32⟩, [0b10101010#8], .stosb_AA),
    (⟨.s32, .s16⟩, [0b10101011#8], .stosw_AB),
    (⟨.s32, .s32⟩, [0b10101100#8], .lodsb_AC)] : List (Attrs × List Byte × Instr)) reads = true := by decide +kernel

/-- AD to C1 /3. -/
theorem test_words_11 : List.all ([
    (⟨.s16, .s16⟩, [0b10101101#8], .lodsw_AD),
    (⟨.s16, .s32⟩, [0b10101110#8], .scasb_AE),
    (⟨.s32, .s16⟩, [0b10101111#8], .scasw_AF),
    (⟨.s32, .s32⟩, [0b10110000#8, 0xA5#8], .mov_B0 0b000#3 0xA5#8),
    (⟨.s16, .s16⟩, [0b10111101#8, 0xA5#8, 0xC3#8], .mov_B8 0b101#3 (.f16 0xC3A5#16)),
    (⟨.s16, .s32⟩, [0b11000000#8, 0b01000100#8, 0b10001011#8, 0x80#8, 0xA5#8], .rol_C0_0 ⟨0b01#2, 0b100#3, some ⟨0b10#2, 0b001#3, 0b011#3⟩, .f8 0x80#8⟩ 0xA5#8),
    (⟨.s32, .s16⟩, [0b11000000#8, 0b01001010#8, 0x80#8, 0xA5#8], .ror_C0_1 ⟨0b01#2, 0b010#3, none, .f8 0x80#8⟩ 0xA5#8),
    (⟨.s32, .s32⟩, [0b11000000#8, 0b01010100#8, 0b10001011#8, 0x80#8, 0xA5#8], .rcl_C0_2 ⟨0b01#2, 0b100#3, some ⟨0b10#2, 0b001#3, 0b011#3⟩, .f8 0x80#8⟩ 0xA5#8),
    (⟨.s16, .s16⟩, [0b11000000#8, 0b10011111#8, 0xFE#8, 0xFF#8, 0xA5#8], .rcr_C0_3 ⟨0b10#2, 0b111#3, none, .f16 0xFFFE#16⟩ 0xA5#8),
    (⟨.s16, .s32⟩, [0b11000000#8, 0b00100100#8, 0b01110101#8, 0x00#8, 0x01#8, 0x02#8, 0x03#8, 0xA5#8], .shl_C0_4 ⟨0b00#2, 0b100#3, some ⟨0b01#2, 0b110#3, 0b101#3⟩, .f32 0x03020100#32⟩ 0xA5#8),
    (⟨.s32, .s16⟩, [0b11000000#8, 0b10101111#8, 0xFE#8, 0xFF#8, 0xA5#8], .shr_C0_5 ⟨0b10#2, 0b111#3, none, .f16 0xFFFE#16⟩ 0xA5#8),
    (⟨.s32, .s32⟩, [0b11000000#8, 0b00111100#8, 0b01110101#8, 0x00#8, 0x01#8, 0x02#8, 0x03#8, 0xA5#8], .sar_C0_7 ⟨0b00#2, 0b100#3, some ⟨0b01#2, 0b110#3, 0b101#3⟩, .f32 0x03020100#32⟩ 0xA5#8),
    (⟨.s16, .s16⟩, [0b11000001#8, 0b00000101#8, 0xA5#8], .rol_C1_0 ⟨0b00#2, 0b101#3, none, .absent⟩ 0xA5#8),
    (⟨.s16, .s32⟩, [0b11000001#8, 0b10001000#8, 0x00#8, 0x00#8, 0x00#8, 0x80#8, 0xA5#8], .ror_C1_1 ⟨0b10#2, 0b000#3, none, .f32 0x80000000#32⟩ 0xA5#8),
    (⟨.s32, .s16⟩, [0b11000001#8, 0b00010101#8, 0xA5#8], .rcl_C1_2 ⟨0b00#2, 0b101#3, none, .absent⟩ 0xA5#8),
    (⟨.s32, .s32⟩, [0b11000001#8, 0b10011000#8, 0x00#8, 0x00#8, 0x00#8, 0x80#8, 0xA5#8], .rcr_C1_3 ⟨0b10#2, 0b000#3, none, .f32 0x80000000#32⟩ 0xA5#8)] : List (Attrs × List Byte × Instr)) reads = true := by decide +kernel

/-- C1 /4 to CE. -/
theorem test_words_12 : List.all ([
    (⟨.s16, .s16⟩, [0b11000001#8, 0b11100001#8, 0xA5#8], .shl_C1_4 ⟨0b11#2, 0b001#3, none, .absent⟩ 0xA5#8),
    (⟨.s16, .s32⟩, [0b11000001#8, 0b11101110#8, 0xA5#8], .shr_C1_5 ⟨0b11#2, 0b110#3, none, .absent⟩ 0xA5#8),
    (⟨.s32, .s16⟩, [0b11000001#8, 0b11111001#8, 0xA5#8], .sar_C1_7 ⟨0b11#2, 0b001#3, none, .absent⟩ 0xA5#8),
    (⟨.s32, .s32⟩, [0b11000010#8, 0xA5#8, 0xC3#8], .ret_C2 0xC3A5#16),
    (⟨.s16, .s16⟩, [0b11000011#8], .ret_C3),
    (⟨.s16, .s32⟩, [0b11000100#8, 0b00010101#8, 0x78#8, 0x56#8, 0x34#8, 0x12#8], .les_C4 0b010#3 ⟨0b00#2, 0b101#3, none, .f32 0x12345678#32⟩),
    (⟨.s32, .s16⟩, [0b11000101#8, 0b00111110#8, 0x34#8, 0x12#8], .lds_C5 0b111#3 ⟨0b00#2, 0b110#3, none, .f16 0x1234#16⟩),
    (⟨.s32, .s32⟩, [0b11000110#8, 0b00000101#8, 0x78#8, 0x56#8, 0x34#8, 0x12#8, 0xA5#8], .mov_C6_0 ⟨0b00#2, 0b101#3, none, .f32 0x12345678#32⟩ 0xA5#8),
    (⟨.s16, .s16⟩, [0b11000111#8, 0b01000010#8, 0x80#8, 0xA5#8, 0xC3#8], .mov_C7_0 ⟨0b01#2, 0b010#3, none, .f8 0x80#8⟩ (.f16 0xC3A5#16)),
    (⟨.s16, .s32⟩, [0b11001000#8, 0xA5#8, 0xC3#8, 0xA5#8], .enter_C8 0xC3A5#16 0xA5#8),
    (⟨.s32, .s16⟩, [0b11001001#8], .leave_C9),
    (⟨.s32, .s32⟩, [0b11001010#8, 0xA5#8, 0xC3#8], .retf_CA 0xC3A5#16),
    (⟨.s16, .s16⟩, [0b11001011#8], .retf_CB),
    (⟨.s16, .s32⟩, [0b11001100#8], .int3_CC),
    (⟨.s32, .s16⟩, [0b11001101#8, 0xA5#8], .int_CD 0xA5#8),
    (⟨.s32, .s32⟩, [0b11001110#8], .into_CE)] : List (Attrs × List Byte × Instr)) reads = true := by decide +kernel

/-- CF to D2 /0. -/
theorem test_words_13 : List.all ([
    (⟨.s16, .s16⟩, [0b11001111#8], .iret_CF),
    (⟨.s16, .s32⟩, [0b11010000#8, 0b10000000#8, 0x00#8, 0x00#8, 0x00#8, 0x80#8], .rol_D0_0 ⟨0b10#2, 0b000#3, none, .f32 0x80000000#32⟩),
    (⟨.s32, .s16⟩, [0b11010000#8, 0b00001101#8], .ror_D0_1 ⟨0b00#2, 0b101#3, none, .absent⟩),
    (⟨.s32, .s32⟩, [0b11010000#8, 0b10010000#8, 0x00#8, 0x00#8, 0x00#8, 0x80#8], .rcl_D0_2 ⟨0b10#2, 0b000#3, none, .f32 0x80000000#32⟩),
    (⟨.s16, .s16⟩, [0b11010000#8, 0b11011001#8], .rcr_D0_3 ⟨0b11#2, 0b001#3, none, .absent⟩),
    (⟨.s16, .s32⟩, [0b11010000#8, 0b11100110#8], .shl_D0_4 ⟨0b11#2, 0b110#3, none, .absent⟩),
    (⟨.s32, .s16⟩, [0b11010000#8, 0b11101001#8], .shr_D0_5 ⟨0b11#2, 0b001#3, none, .absent⟩),
    (⟨.s32, .s32⟩, [0b11010000#8, 0b11111110#8], .sar_D0_7 ⟨0b11#2, 0b110#3, none, .absent⟩),
    (⟨.s16, .s16⟩, [0b11010001#8, 0b00000110#8, 0x34#8, 0x12#8], .rol_D1_0 ⟨0b00#2, 0b110#3, none, .f16 0x1234#16⟩),
    (⟨.s16, .s32⟩, [0b11010001#8, 0b00001101#8, 0x78#8, 0x56#8, 0x34#8, 0x12#8], .ror_D1_1 ⟨0b00#2, 0b101#3, none, .f32 0x12345678#32⟩),
    (⟨.s32, .s16⟩, [0b11010001#8, 0b00010110#8, 0x34#8, 0x12#8], .rcl_D1_2 ⟨0b00#2, 0b110#3, none, .f16 0x1234#16⟩),
    (⟨.s32, .s32⟩, [0b11010001#8, 0b00011101#8, 0x78#8, 0x56#8, 0x34#8, 0x12#8], .rcr_D1_3 ⟨0b00#2, 0b101#3, none, .f32 0x12345678#32⟩),
    (⟨.s16, .s16⟩, [0b11010001#8, 0b01100010#8, 0x80#8], .shl_D1_4 ⟨0b01#2, 0b010#3, none, .f8 0x80#8⟩),
    (⟨.s16, .s32⟩, [0b11010001#8, 0b01101100#8, 0b10001011#8, 0x80#8], .shr_D1_5 ⟨0b01#2, 0b100#3, some ⟨0b10#2, 0b001#3, 0b011#3⟩, .f8 0x80#8⟩),
    (⟨.s32, .s16⟩, [0b11010001#8, 0b01111010#8, 0x80#8], .sar_D1_7 ⟨0b01#2, 0b010#3, none, .f8 0x80#8⟩),
    (⟨.s32, .s32⟩, [0b11010010#8, 0b01000100#8, 0b10001011#8, 0x80#8], .rol_D2_0 ⟨0b01#2, 0b100#3, some ⟨0b10#2, 0b001#3, 0b011#3⟩, .f8 0x80#8⟩)] : List (Attrs × List Byte × Instr)) reads = true := by decide +kernel

/-- D2 /1 to D7. -/
theorem test_words_14 : List.all ([
    (⟨.s16, .s16⟩, [0b11010010#8, 0b10001111#8, 0xFE#8, 0xFF#8], .ror_D2_1 ⟨0b10#2, 0b111#3, none, .f16 0xFFFE#16⟩),
    (⟨.s16, .s32⟩, [0b11010010#8, 0b00010100#8, 0b01110101#8, 0x00#8, 0x01#8, 0x02#8, 0x03#8], .rcl_D2_2 ⟨0b00#2, 0b100#3, some ⟨0b01#2, 0b110#3, 0b101#3⟩, .f32 0x03020100#32⟩),
    (⟨.s32, .s16⟩, [0b11010010#8, 0b10011111#8, 0xFE#8, 0xFF#8], .rcr_D2_3 ⟨0b10#2, 0b111#3, none, .f16 0xFFFE#16⟩),
    (⟨.s32, .s32⟩, [0b11010010#8, 0b00100100#8, 0b01110101#8, 0x00#8, 0x01#8, 0x02#8, 0x03#8], .shl_D2_4 ⟨0b00#2, 0b100#3, some ⟨0b01#2, 0b110#3, 0b101#3⟩, .f32 0x03020100#32⟩),
    (⟨.s16, .s16⟩, [0b11010010#8, 0b00101101#8], .shr_D2_5 ⟨0b00#2, 0b101#3, none, .absent⟩),
    (⟨.s16, .s32⟩, [0b11010010#8, 0b10111000#8, 0x00#8, 0x00#8, 0x00#8, 0x80#8], .sar_D2_7 ⟨0b10#2, 0b000#3, none, .f32 0x80000000#32⟩),
    (⟨.s32, .s16⟩, [0b11010011#8, 0b00000101#8], .rol_D3_0 ⟨0b00#2, 0b101#3, none, .absent⟩),
    (⟨.s32, .s32⟩, [0b11010011#8, 0b10001000#8, 0x00#8, 0x00#8, 0x00#8, 0x80#8], .ror_D3_1 ⟨0b10#2, 0b000#3, none, .f32 0x80000000#32⟩),
    (⟨.s16, .s16⟩, [0b11010011#8, 0b11010001#8], .rcl_D3_2 ⟨0b11#2, 0b001#3, none, .absent⟩),
    (⟨.s16, .s32⟩, [0b11010011#8, 0b11011110#8], .rcr_D3_3 ⟨0b11#2, 0b110#3, none, .absent⟩),
    (⟨.s32, .s16⟩, [0b11010011#8, 0b11100001#8], .shl_D3_4 ⟨0b11#2, 0b001#3, none, .absent⟩),
    (⟨.s32, .s32⟩, [0b11010011#8, 0b11101110#8], .shr_D3_5 ⟨0b11#2, 0b110#3, none, .absent⟩),
    (⟨.s16, .s16⟩, [0b11010011#8, 0b00111110#8, 0x34#8, 0x12#8], .sar_D3_7 ⟨0b00#2, 0b110#3, none, .f16 0x1234#16⟩),
    (⟨.s16, .s32⟩, [0b11010100#8, 0xA5#8], .aam_D4 0xA5#8),
    (⟨.s32, .s16⟩, [0b11010101#8, 0xA5#8], .aad_D5 0xA5#8),
    (⟨.s32, .s32⟩, [0b11010111#8], .xlat_D7)] : List (Attrs × List Byte × Instr)) reads = true := by decide +kernel

/-- D8+r to EE. -/
theorem test_words_15 : List.all ([
    (⟨.s16, .s16⟩, [0b11011110#8], .esc_D8 0b110#3),
    (⟨.s16, .s32⟩, [0b11100000#8, 0xA5#8], .loopne_E0 0xA5#8),
    (⟨.s32, .s16⟩, [0b11100001#8, 0xA5#8], .loope_E1 0xA5#8),
    (⟨.s32, .s32⟩, [0b11100010#8, 0xA5#8], .loop_E2 0xA5#8),
    (⟨.s16, .s16⟩, [0b11100011#8, 0xA5#8], .jcxz_E3 0xA5#8),
    (⟨.s16, .s32⟩, [0b11100100#8, 0xA5#8], .in_E4 0xA5#8),
    (⟨.s32, .s16⟩, [0b11100101#8, 0xA5#8], .in_E5 0xA5#8),
    (⟨.s32, .s32⟩, [0b11100110#8, 0xA5#8], .out_E6 0xA5#8),
    (⟨.s16, .s16⟩, [0b11100111#8, 0xA5#8], .out_E7 0xA5#8),
    (⟨.s16, .s32⟩, [0b11101000#8, 0xA5#8, 0xC3#8], .call_E8 (.f16 0xC3A5#16)),
    (⟨.s32, .s16⟩, [0b11101001#8, 0xA5#8, 0xC3#8, 0xC2#8, 0x01#8], .jmp_E9 (.f32 0x01C2C3A5#32)),
    (⟨.s32, .s32⟩, [0b11101010#8, 0xA5#8, 0xC3#8, 0xC2#8, 0x01#8, 0xA5#8, 0xC3#8], .jmpf_EA (.f32 0x01C2C3A5#32) 0xC3A5#16),
    (⟨.s16, .s16⟩, [0b11101011#8, 0xA5#8], .jmp_EB 0xA5#8),
    (⟨.s16, .s32⟩, [0b11101100#8], .in_EC),
    (⟨.s32, .s16⟩, [0b11101101#8], .in_ED),
    (⟨.s32, .s32⟩, [0b11101110#8], .out_EE)] : List (Attrs × List Byte × Instr)) reads = true := by decide +kernel

/-- EF to F7 /6. -/
theorem test_words_16 : List.all ([
    (⟨.s16, .s16⟩, [0b11101111#8], .out_EF),
    (⟨.s16, .s32⟩, [0b11110100#8], .hlt_F4),
    (⟨.s32, .s16⟩, [0b11110101#8], .cmc_F5),
    (⟨.s32, .s32⟩, [0b11110110#8, 0b00000101#8, 0x78#8, 0x56#8, 0x34#8, 0x12#8, 0xA5#8], .test_F6_0 ⟨0b00#2, 0b101#3, none, .f32 0x12345678#32⟩ 0xA5#8),
    (⟨.s16, .s16⟩, [0b11110110#8, 0b01010010#8, 0x80#8], .not_F6_2 ⟨0b01#2, 0b010#3, none, .f8 0x80#8⟩),
    (⟨.s16, .s32⟩, [0b11110110#8, 0b01011100#8, 0b10001011#8, 0x80#8], .neg_F6_3 ⟨0b01#2, 0b100#3, some ⟨0b10#2, 0b001#3, 0b011#3⟩, .f8 0x80#8⟩),
    (⟨.s32, .s16⟩, [0b11110110#8, 0b01100010#8, 0x80#8], .mul_F6_4 ⟨0b01#2, 0b010#3, none, .f8 0x80#8⟩),
    (⟨.s32, .s32⟩, [0b11110110#8, 0b01101100#8, 0b10001011#8, 0x80#8], .imul_F6_5 ⟨0b01#2, 0b100#3, some ⟨0b10#2, 0b001#3, 0b011#3⟩, .f8 0x80#8⟩),
    (⟨.s16, .s16⟩, [0b11110110#8, 0b10110111#8, 0xFE#8, 0xFF#8], .div_F6_6 ⟨0b10#2, 0b111#3, none, .f16 0xFFFE#16⟩),
    (⟨.s16, .s32⟩, [0b11110110#8, 0b00111100#8, 0b01110101#8, 0x00#8, 0x01#8, 0x02#8, 0x03#8], .idiv_F6_7 ⟨0b00#2, 0b100#3, some ⟨0b01#2, 0b110#3, 0b101#3⟩, .f32 0x03020100#32⟩),
    (⟨.s32, .s16⟩, [0b11110111#8, 0b10000111#8, 0xFE#8, 0xFF#8, 0xA5#8, 0xC3#8, 0xC2#8, 0x01#8], .test_F7_0 ⟨0b10#2, 0b111#3, none, .f16 0xFFFE#16⟩ (.f32 0x01C2C3A5#32)),
    (⟨.s32, .s32⟩, [0b11110111#8, 0b00010100#8, 0b01110101#8, 0x00#8, 0x01#8, 0x02#8, 0x03#8], .not_F7_2 ⟨0b00#2, 0b100#3, some ⟨0b01#2, 0b110#3, 0b101#3⟩, .f32 0x03020100#32⟩),
    (⟨.s16, .s16⟩, [0b11110111#8, 0b00011101#8], .neg_F7_3 ⟨0b00#2, 0b101#3, none, .absent⟩),
    (⟨.s16, .s32⟩, [0b11110111#8, 0b10100000#8, 0x00#8, 0x00#8, 0x00#8, 0x80#8], .mul_F7_4 ⟨0b10#2, 0b000#3, none, .f32 0x80000000#32⟩),
    (⟨.s32, .s16⟩, [0b11110111#8, 0b00101101#8], .imul_F7_5 ⟨0b00#2, 0b101#3, none, .absent⟩),
    (⟨.s32, .s32⟩, [0b11110111#8, 0b10110000#8, 0x00#8, 0x00#8, 0x00#8, 0x80#8], .div_F7_6 ⟨0b10#2, 0b000#3, none, .f32 0x80000000#32⟩)] : List (Attrs × List Byte × Instr)) reads = true := by decide +kernel

/-- F7 /7 to FF /6. -/
theorem test_words_17 : List.all ([
    (⟨.s16, .s16⟩, [0b11110111#8, 0b11111001#8], .idiv_F7_7 ⟨0b11#2, 0b001#3, none, .absent⟩),
    (⟨.s16, .s32⟩, [0b11111000#8], .clc_F8),
    (⟨.s32, .s16⟩, [0b11111001#8], .stc_F9),
    (⟨.s32, .s32⟩, [0b11111010#8], .cli_FA),
    (⟨.s16, .s16⟩, [0b11111011#8], .sti_FB),
    (⟨.s16, .s32⟩, [0b11111100#8], .cld_FC),
    (⟨.s32, .s16⟩, [0b11111101#8], .std_FD),
    (⟨.s32, .s32⟩, [0b11111110#8, 0b00000101#8, 0x78#8, 0x56#8, 0x34#8, 0x12#8], .inc_FE_0 ⟨0b00#2, 0b101#3, none, .f32 0x12345678#32⟩),
    (⟨.s16, .s16⟩, [0b11111110#8, 0b01001010#8, 0x80#8], .dec_FE_1 ⟨0b01#2, 0b010#3, none, .f8 0x80#8⟩),
    (⟨.s16, .s32⟩, [0b11111111#8, 0b01000100#8, 0b10001011#8, 0x80#8], .inc_FF_0 ⟨0b01#2, 0b100#3, some ⟨0b10#2, 0b001#3, 0b011#3⟩, .f8 0x80#8⟩),
    (⟨.s32, .s16⟩, [0b11111111#8, 0b01001010#8, 0x80#8], .dec_FF_1 ⟨0b01#2, 0b010#3, none, .f8 0x80#8⟩),
    (⟨.s32, .s32⟩, [0b11111111#8, 0b01010100#8, 0b10001011#8, 0x80#8], .call_FF_2 ⟨0b01#2, 0b100#3, some ⟨0b10#2, 0b001#3, 0b011#3⟩, .f8 0x80#8⟩),
    (⟨.s16, .s16⟩, [0b11111111#8, 0b10011111#8, 0xFE#8, 0xFF#8], .callf_FF_3 ⟨0b10#2, 0b111#3, none, .f16 0xFFFE#16⟩),
    (⟨.s16, .s32⟩, [0b11111111#8, 0b00100100#8, 0b01110101#8, 0x00#8, 0x01#8, 0x02#8, 0x03#8], .jmp_FF_4 ⟨0b00#2, 0b100#3, some ⟨0b01#2, 0b110#3, 0b101#3⟩, .f32 0x03020100#32⟩),
    (⟨.s32, .s16⟩, [0b11111111#8, 0b10101111#8, 0xFE#8, 0xFF#8], .jmpf_FF_5 ⟨0b10#2, 0b111#3, none, .f16 0xFFFE#16⟩),
    (⟨.s32, .s32⟩, [0b11111111#8, 0b00110100#8, 0b01110101#8, 0x00#8, 0x01#8, 0x02#8, 0x03#8], .push_FF_6 ⟨0b00#2, 0b100#3, some ⟨0b01#2, 0b110#3, 0b101#3⟩, .f32 0x03020100#32⟩)] : List (Attrs × List Byte × Instr)) reads = true := by decide +kernel

/-- 0F 00 /0 to 0F 20. -/
theorem test_words_18 : List.all ([
    (⟨.s16, .s16⟩, [0b00001111#8, 0b00000000#8, 0b00000101#8], .sldt_0F00_0 ⟨0b00#2, 0b101#3, none, .absent⟩),
    (⟨.s16, .s32⟩, [0b00001111#8, 0b00000000#8, 0b10001000#8, 0x00#8, 0x00#8, 0x00#8, 0x80#8], .str_0F00_1 ⟨0b10#2, 0b000#3, none, .f32 0x80000000#32⟩),
    (⟨.s32, .s16⟩, [0b00001111#8, 0b00000000#8, 0b00010101#8], .lldt_0F00_2 ⟨0b00#2, 0b101#3, none, .absent⟩),
    (⟨.s32, .s32⟩, [0b00001111#8, 0b00000000#8, 0b10011000#8, 0x00#8, 0x00#8, 0x00#8, 0x80#8], .ltr_0F00_3 ⟨0b10#2, 0b000#3, none, .f32 0x80000000#32⟩),
    (⟨.s16, .s16⟩, [0b00001111#8, 0b00000000#8, 0b11100001#8], .verr_0F00_4 ⟨0b11#2, 0b001#3, none, .absent⟩),
    (⟨.s16, .s32⟩, [0b00001111#8, 0b00000000#8, 0b11101110#8], .verw_0F00_5 ⟨0b11#2, 0b110#3, none, .absent⟩),
    (⟨.s32, .s16⟩, [0b00001111#8, 0b00000001#8, 0b11000001#8], .sgdt_0F01_0 ⟨0b11#2, 0b001#3, none, .absent⟩),
    (⟨.s32, .s32⟩, [0b00001111#8, 0b00000001#8, 0b11001110#8], .sidt_0F01_1 ⟨0b11#2, 0b110#3, none, .absent⟩),
    (⟨.s16, .s16⟩, [0b00001111#8, 0b00000001#8, 0b00010110#8, 0x34#8, 0x12#8], .lgdt_0F01_2 ⟨0b00#2, 0b110#3, none, .f16 0x1234#16⟩),
    (⟨.s16, .s32⟩, [0b00001111#8, 0b00000001#8, 0b00011101#8, 0x78#8, 0x56#8, 0x34#8, 0x12#8], .lidt_0F01_3 ⟨0b00#2, 0b101#3, none, .f32 0x12345678#32⟩),
    (⟨.s32, .s16⟩, [0b00001111#8, 0b00000001#8, 0b00100110#8, 0x34#8, 0x12#8], .smsw_0F01_4 ⟨0b00#2, 0b110#3, none, .f16 0x1234#16⟩),
    (⟨.s32, .s32⟩, [0b00001111#8, 0b00000001#8, 0b00110101#8, 0x78#8, 0x56#8, 0x34#8, 0x12#8], .lmsw_0F01_6 ⟨0b00#2, 0b101#3, none, .f32 0x12345678#32⟩),
    (⟨.s16, .s16⟩, [0b00001111#8, 0b00000010#8, 0b01101010#8, 0x80#8], .lar_0F02 0b101#3 ⟨0b01#2, 0b010#3, none, .f8 0x80#8⟩),
    (⟨.s16, .s32⟩, [0b00001111#8, 0b00000011#8, 0b01010100#8, 0b10001011#8, 0x80#8], .lsl_0F03 0b010#3 ⟨0b01#2, 0b100#3, some ⟨0b10#2, 0b001#3, 0b011#3⟩, .f8 0x80#8⟩),
    (⟨.s32, .s16⟩, [0b00001111#8, 0b00000110#8], .clts_0F06),
    (⟨.s32, .s32⟩, [0b00001111#8, 0b00100000#8, 0b01011100#8], .mov_0F20 0b01#2 0b011#3 0b100#3)] : List (Attrs × List Byte × Instr)) reads = true := by decide +kernel

/-- 0F 21 to 0F 8A. -/
theorem test_words_19 : List.all ([
    (⟨.s16, .s16⟩, [0b00001111#8, 0b00100001#8, 0b10110111#8], .mov_0F21 0b10#2 0b110#3 0b111#3),
    (⟨.s16, .s32⟩, [0b00001111#8, 0b00100010#8, 0b00001100#8], .mov_0F22 0b00#2 0b001#3 0b100#3),
    (⟨.s32, .s16⟩, [0b00001111#8, 0b00100011#8, 0b10100111#8], .mov_0F23 0b10#2 0b100#3 0b111#3),
    (⟨.s32, .s32⟩, [0b00001111#8, 0b00100100#8, 0b00000100#8], .mov_0F24 0b00#2 0b000#3 0b100#3),
    (⟨.s16, .s16⟩, [0b00001111#8, 0b00100110#8, 0b00101101#8], .mov_0F26 0b00#2 0b101#3 0b101#3),
    (⟨.s16, .s32⟩, [0b00001111#8, 0b10000000#8, 0xA5#8, 0xC3#8], .jo_0F80 (.f16 0xC3A5#16)),
    (⟨.s32, .s16⟩, [0b00001111#8, 0b10000001#8, 0xA5#8, 0xC3#8, 0xC2#8, 0x01#8], .jno_0F81 (.f32 0x01C2C3A5#32)),
    (⟨.s32, .s32⟩, [0b00001111#8, 0b10000010#8, 0xA5#8, 0xC3#8, 0xC2#8, 0x01#8], .jb_0F82 (.f32 0x01C2C3A5#32)),
    (⟨.s16, .s16⟩, [0b00001111#8, 0b10000011#8, 0xA5#8, 0xC3#8], .jnb_0F83 (.f16 0xC3A5#16)),
    (⟨.s16, .s32⟩, [0b00001111#8, 0b10000100#8, 0xA5#8, 0xC3#8], .jz_0F84 (.f16 0xC3A5#16)),
    (⟨.s32, .s16⟩, [0b00001111#8, 0b10000101#8, 0xA5#8, 0xC3#8, 0xC2#8, 0x01#8], .jnz_0F85 (.f32 0x01C2C3A5#32)),
    (⟨.s32, .s32⟩, [0b00001111#8, 0b10000110#8, 0xA5#8, 0xC3#8, 0xC2#8, 0x01#8], .jbe_0F86 (.f32 0x01C2C3A5#32)),
    (⟨.s16, .s16⟩, [0b00001111#8, 0b10000111#8, 0xA5#8, 0xC3#8], .jnbe_0F87 (.f16 0xC3A5#16)),
    (⟨.s16, .s32⟩, [0b00001111#8, 0b10001000#8, 0xA5#8, 0xC3#8], .js_0F88 (.f16 0xC3A5#16)),
    (⟨.s32, .s16⟩, [0b00001111#8, 0b10001001#8, 0xA5#8, 0xC3#8, 0xC2#8, 0x01#8], .jns_0F89 (.f32 0x01C2C3A5#32)),
    (⟨.s32, .s32⟩, [0b00001111#8, 0b10001010#8, 0xA5#8, 0xC3#8, 0xC2#8, 0x01#8], .jp_0F8A (.f32 0x01C2C3A5#32))] : List (Attrs × List Byte × Instr)) reads = true := by decide +kernel

/-- 0F 8B to 0F 9A. -/
theorem test_words_20 : List.all ([
    (⟨.s16, .s16⟩, [0b00001111#8, 0b10001011#8, 0xA5#8, 0xC3#8], .jnp_0F8B (.f16 0xC3A5#16)),
    (⟨.s16, .s32⟩, [0b00001111#8, 0b10001100#8, 0xA5#8, 0xC3#8], .jl_0F8C (.f16 0xC3A5#16)),
    (⟨.s32, .s16⟩, [0b00001111#8, 0b10001101#8, 0xA5#8, 0xC3#8, 0xC2#8, 0x01#8], .jnl_0F8D (.f32 0x01C2C3A5#32)),
    (⟨.s32, .s32⟩, [0b00001111#8, 0b10001110#8, 0xA5#8, 0xC3#8, 0xC2#8, 0x01#8], .jle_0F8E (.f32 0x01C2C3A5#32)),
    (⟨.s16, .s16⟩, [0b00001111#8, 0b10001111#8, 0xA5#8, 0xC3#8], .jnle_0F8F (.f16 0xC3A5#16)),
    (⟨.s16, .s32⟩, [0b00001111#8, 0b10010000#8, 0b00010100#8, 0b01110101#8, 0x00#8, 0x01#8, 0x02#8, 0x03#8], .seto_0F90 0b010#3 ⟨0b00#2, 0b100#3, some ⟨0b01#2, 0b110#3, 0b101#3⟩, .f32 0x03020100#32⟩),
    (⟨.s32, .s16⟩, [0b00001111#8, 0b10010001#8, 0b10111111#8, 0xFE#8, 0xFF#8], .setno_0F91 0b111#3 ⟨0b10#2, 0b111#3, none, .f16 0xFFFE#16⟩),
    (⟨.s32, .s32⟩, [0b00001111#8, 0b10010010#8, 0b00011100#8, 0b01110101#8, 0x00#8, 0x01#8, 0x02#8, 0x03#8], .setb_0F92 0b011#3 ⟨0b00#2, 0b100#3, some ⟨0b01#2, 0b110#3, 0b101#3⟩, .f32 0x03020100#32⟩),
    (⟨.s16, .s16⟩, [0b00001111#8, 0b10010011#8, 0b00110101#8], .setnb_0F93 0b110#3 ⟨0b00#2, 0b101#3, none, .absent⟩),
    (⟨.s16, .s32⟩, [0b00001111#8, 0b10010100#8, 0b10001000#8, 0x00#8, 0x00#8, 0x00#8, 0x80#8], .setz_0F94 0b001#3 ⟨0b10#2, 0b000#3, none, .f32 0x80000000#32⟩),
    (⟨.s32, .s16⟩, [0b00001111#8, 0b10010101#8, 0b00100101#8], .setnz_0F95 0b100#3 ⟨0b00#2, 0b101#3, none, .absent⟩),
    (⟨.s32, .s32⟩, [0b00001111#8, 0b10010110#8, 0b10000000#8, 0x00#8, 0x00#8, 0x00#8, 0x80#8], .setbe_0F96 0b000#3 ⟨0b10#2, 0b000#3, none, .f32 0x80000000#32⟩),
    (⟨.s16, .s16⟩, [0b00001111#8, 0b10010111#8, 0b11101001#8], .setnbe_0F97 0b101#3 ⟨0b11#2, 0b001#3, none, .absent⟩),
    (⟨.s16, .s32⟩, [0b00001111#8, 0b10011000#8, 0b11010110#8], .sets_0F98 0b010#3 ⟨0b11#2, 0b110#3, none, .absent⟩),
    (⟨.s32, .s16⟩, [0b00001111#8, 0b10011001#8, 0b11111001#8], .setns_0F99 0b111#3 ⟨0b11#2, 0b001#3, none, .absent⟩),
    (⟨.s32, .s32⟩, [0b00001111#8, 0b10011010#8, 0b11011110#8], .setp_0F9A 0b011#3 ⟨0b11#2, 0b110#3, none, .absent⟩)] : List (Attrs × List Byte × Instr)) reads = true := by decide +kernel

/-- 0F 9B to 0F AF. -/
theorem test_words_21 : List.all ([
    (⟨.s16, .s16⟩, [0b00001111#8, 0b10011011#8, 0b00110110#8, 0x34#8, 0x12#8], .setnp_0F9B 0b110#3 ⟨0b00#2, 0b110#3, none, .f16 0x1234#16⟩),
    (⟨.s16, .s32⟩, [0b00001111#8, 0b10011100#8, 0b00001101#8, 0x78#8, 0x56#8, 0x34#8, 0x12#8], .setl_0F9C 0b001#3 ⟨0b00#2, 0b101#3, none, .f32 0x12345678#32⟩),
    (⟨.s32, .s16⟩, [0b00001111#8, 0b10011101#8, 0b00100110#8, 0x34#8, 0x12#8], .setnl_0F9D 0b100#3 ⟨0b00#2, 0b110#3, none, .f16 0x1234#16⟩),
    (⟨.s32, .s32⟩, [0b00001111#8, 0b10011110#8, 0b00000101#8, 0x78#8, 0x56#8, 0x34#8, 0x12#8], .setle_0F9E 0b000#3 ⟨0b00#2, 0b101#3, none, .f32 0x12345678#32⟩),
    (⟨.s16, .s16⟩, [0b00001111#8, 0b10011111#8, 0b01101010#8, 0x80#8], .setnle_0F9F 0b101#3 ⟨0b01#2, 0b010#3, none, .f8 0x80#8⟩),
    (⟨.s16, .s32⟩, [0b00001111#8, 0b10100000#8], .push_0FA0),
    (⟨.s32, .s16⟩, [0b00001111#8, 0b10100001#8], .pop_0FA1),
    (⟨.s32, .s32⟩, [0b00001111#8, 0b10100011#8, 0b01011100#8, 0b10001011#8, 0x80#8], .bt_0FA3 0b011#3 ⟨0b01#2, 0b100#3, some ⟨0b10#2, 0b001#3, 0b011#3⟩, .f8 0x80#8⟩),
    (⟨.s16, .s16⟩, [0b00001111#8, 0b10100100#8, 0b10110111#8, 0xFE#8, 0xFF#8, 0xA5#8], .shld_0FA4 0b110#3 ⟨0b10#2, 0b111#3, none, .f16 0xFFFE#16⟩ 0xA5#8),
    (⟨.s16, .s32⟩, [0b00001111#8, 0b10100101#8, 0b00001100#8, 0b01110101#8, 0x00#8, 0x01#8, 0x02#8, 0x03#8], .shld_0FA5 0b001#3 ⟨0b00#2, 0b100#3, some ⟨0b01#2, 0b110#3, 0b101#3⟩, .f32 0x03020100#32⟩),
    (⟨.s32, .s16⟩, [0b00001111#8, 0b10101000#8], .push_0FA8),
    (⟨.s32, .s32⟩, [0b00001111#8, 0b10101001#8], .pop_0FA9),
    (⟨.s16, .s16⟩, [0b00001111#8, 0b10101011#8, 0b00101101#8], .bts_0FAB 0b101#3 ⟨0b00#2, 0b101#3, none, .absent⟩),
    (⟨.s16, .s32⟩, [0b00001111#8, 0b10101100#8, 0b10010000#8, 0x00#8, 0x00#8, 0x00#8, 0x80#8, 0xA5#8], .shrd_0FAC 0b010#3 ⟨0b10#2, 0b000#3, none, .f32 0x80000000#32⟩ 0xA5#8),
    (⟨.s32, .s16⟩, [0b00001111#8, 0b10101101#8, 0b00111101#8], .shrd_0FAD 0b111#3 ⟨0b00#2, 0b101#3, none, .absent⟩),
    (⟨.s32, .s32⟩, [0b00001111#8, 0b10101111#8, 0b10011000#8, 0x00#8, 0x00#8, 0x00#8, 0x80#8], .imul_0FAF 0b011#3 ⟨0b10#2, 0b000#3, none, .f32 0x80000000#32⟩)] : List (Attrs × List Byte × Instr)) reads = true := by decide +kernel

/-- 0F B2 to unassigned one-byte opcode. -/
theorem test_words_22 : List.all ([
    (⟨.s16, .s16⟩, [0b00001111#8, 0b10110010#8, 0b11110001#8], .lss_0FB2 0b110#3 ⟨0b11#2, 0b001#3, none, .absent⟩),
    (⟨.s16, .s32⟩, [0b00001111#8, 0b10110011#8, 0b11001110#8], .btr_0FB3 0b001#3 ⟨0b11#2, 0b110#3, none, .absent⟩),
    (⟨.s32, .s16⟩, [0b00001111#8, 0b10110100#8, 0b11100001#8], .lfs_0FB4 0b100#3 ⟨0b11#2, 0b001#3, none, .absent⟩),
    (⟨.s32, .s32⟩, [0b00001111#8, 0b10110101#8, 0b11000110#8], .lgs_0FB5 0b000#3 ⟨0b11#2, 0b110#3, none, .absent⟩),
    (⟨.s16, .s16⟩, [0b00001111#8, 0b10110110#8, 0b00101110#8, 0x34#8, 0x12#8], .movzx_0FB6 0b101#3 ⟨0b00#2, 0b110#3, none, .f16 0x1234#16⟩),
    (⟨.s16, .s32⟩, [0b00001111#8, 0b10110111#8, 0b00010101#8, 0x78#8, 0x56#8, 0x34#8, 0x12#8], .movzx_0FB7 0b010#3 ⟨0b00#2, 0b101#3, none, .f32 0x12345678#32⟩),
    (⟨.s32, .s16⟩, [0b00001111#8, 0b10111010#8, 0b00100110#8, 0x34#8, 0x12#8, 0xA5#8], .bt_0FBA_4 ⟨0b00#2, 0b110#3, none, .f16 0x1234#16⟩ 0xA5#8),
    (⟨.s32, .s32⟩, [0b00001111#8, 0b10111010#8, 0b00101101#8, 0x78#8, 0x56#8, 0x34#8, 0x12#8, 0xA5#8], .bts_0FBA_5 ⟨0b00#2, 0b101#3, none, .f32 0x12345678#32⟩ 0xA5#8),
    (⟨.s16, .s16⟩, [0b00001111#8, 0b10111010#8, 0b01110010#8, 0x80#8, 0xA5#8], .btr_0FBA_6 ⟨0b01#2, 0b010#3, none, .f8 0x80#8⟩ 0xA5#8),
    (⟨.s16, .s32⟩, [0b00001111#8, 0b10111010#8, 0b01111100#8, 0b10001011#8, 0x80#8, 0xA5#8], .btc_0FBA_7 ⟨0b01#2, 0b100#3, some ⟨0b10#2, 0b001#3, 0b011#3⟩, .f8 0x80#8⟩ 0xA5#8),
    (⟨.s32, .s16⟩, [0b00001111#8, 0b10111011#8, 0b01100010#8, 0x80#8], .btc_0FBB 0b100#3 ⟨0b01#2, 0b010#3, none, .f8 0x80#8⟩),
    (⟨.s32, .s32⟩, [0b00001111#8, 0b10111100#8, 0b01000100#8, 0b10001011#8, 0x80#8], .bsf_0FBC 0b000#3 ⟨0b01#2, 0b100#3, some ⟨0b10#2, 0b001#3, 0b011#3⟩, .f8 0x80#8⟩),
    (⟨.s16, .s16⟩, [0b00001111#8, 0b10111101#8, 0b10101111#8, 0xFE#8, 0xFF#8], .bsr_0FBD 0b101#3 ⟨0b10#2, 0b111#3, none, .f16 0xFFFE#16⟩),
    (⟨.s16, .s32⟩, [0b00001111#8, 0b10111110#8, 0b00010100#8, 0b01110101#8, 0x00#8, 0x01#8, 0x02#8, 0x03#8], .movsx_0FBE 0b010#3 ⟨0b00#2, 0b100#3, some ⟨0b01#2, 0b110#3, 0b101#3⟩, .f32 0x03020100#32⟩),
    (⟨.s32, .s16⟩, [0b00001111#8, 0b10111111#8, 0b10111111#8, 0xFE#8, 0xFF#8], .movsx_0FBF 0b111#3 ⟨0b10#2, 0b111#3, none, .f16 0xFFFE#16⟩),
    (⟨.s16, .s16⟩, [0xD6#8], .unassignedOneByte 0xD6#8)] : List (Attrs × List Byte × Instr)) reads = true := by decide +kernel

/-- unassigned one-byte opcode to unassigned two-byte opcode. -/
theorem test_words_23 : List.all ([
    (⟨.s16, .s16⟩, [0xF1#8], .unassignedOneByte 0xF1#8),
    (⟨.s16, .s16⟩, [0b00001111#8, 0x04#8], .unassignedTwoByte 0x04#8),
    (⟨.s16, .s16⟩, [0b00001111#8, 0x7F#8], .unassignedTwoByte 0x7F#8),
    (⟨.s16, .s16⟩, [0b00001111#8, 0xFF#8], .unassignedTwoByte 0xFF#8)] : List (Attrs × List Byte × Instr)) reads = true := by decide +kernel

-- an opcode_table.json word, its first byte in the top bits (log entry 5), decodes to its row
theorem test_table_word : decodeTableWord 24 0x0FB6C1 =
    some (.movzx_0FB6 0#3 ⟨0b11#2, 0b001#3, none, .absent⟩) ∧
    decodeTableWord 8 0x0F = some .escape0F ∧ decodeTableWord 8 0xD6 = some (.unassignedOneByte 0xD6#8) := by
  decide +kernel

-- a prefix, the escape and an unassigned opcode before other bytes of the view: reserved words never fall
-- through to a neighbour (R163, R167)
theorem test_reserved_refused :
    decode w16 [0x8F#8, 0b11001000#8] = .error (.emptySlot (.one 0x8F#8) 0b11001000#8) ∧
    decode w16 [0x8C#8, 0b11110000#8] = .error (.noSegment (.one 0x8C#8) 0b11110000#8) ∧
    decode w16 [0x05#8, 0x01#8] = .error (.truncated .immediate 1 [0x01#8]) := by decide +kernel

/-! ## Small states -/

section States

/-- A request at offset 0. -/
abbrev request (bytes : List Byte) (is32 : Bool) : Request := ⟨Memory.ofBytes bytes, 0, is32⟩

/-- The block initialised, with nothing at its ports. -/
abbrev idle : State := State.reset.initialise

/-- The block at the start of a request: the first byte is read next. -/
abbrev fresh (bytes : List Byte) (is32 : Bool) : State :=
  (idle.present (request bytes is32)).accept (request bytes is32)

/-- The latches of a request that has read the escape at offset 0. -/
abbrev pastEscape (bytes : List Byte) (is32 : Bool) : Latches :=
  { (Latches.start (request bytes is32)).endScan with cur := 1 }

/-- The block after the escape: the second opcode byte is read next. -/
abbrev escaped (bytes : List Byte) (is32 : Bool) : State :=
  { idle.present (request bytes is32) with latches := some (pastEscape bytes is32) }

/-- What a step puts at the response port. -/
noncomputable abbrev stepResponse (s : State) : Option Response :=
  match step s with
  | .next t => t.response
  | .fault _ => none
  | .refused _ => none

/-- The next state, or the same where there is none. -/
noncomputable abbrev after (s : State) : State :=
  match step s with
  | .next t => t
  | .fault _ => s
  | .refused _ => s

end States

/-! ## Single steps, with the results of 95_test_vectors.md -/

section Steps

theorem test_step_initialises : after State.reset = idle := by rfl

theorem test_step_request_before_init : step (State.reset.present (request [0x90#8] false)) =
    .refused .requestBeforeInit := by rfl

/-- The response the vector gives; the vectors name a descriptor by its mnemonic alone. -/
noncomputable def gives (x : List Byte × Bool × Response) : Bool :=
  let s := if x.1.head? = some 0x0F#8 then escaped x.1 x.2.1 else fresh x.1 x.2.1
  match stepResponse s with
  | some (.ok i) => decide (Response.ok { i with opcodeDescriptor := opcode i.opcodeDescriptor.name [] } = x.2.2)
  | some (.err f) => decide (Response.err f = x.2.2)
  | none => false

-- S1 to M16.19: S1 S4b OT1 OT5 OT8 OT11 OT14 OT17 OT20 M16.1 M16.4 M16.7 M16.10 M16.13 M16.16 M16.19
theorem test_vectors_0 : List.all ([
    ([0xF4#8], false, .ok ⟨opcode "HLT" [], 1, false, false, none, none, none, none, false, none⟩),
    ([0x8A#8, 0x06#8, 0x02#8, 0x00#8], false, .ok ⟨opcode "MOV" [], 4, false, false, some ⟨(some .al), none, 1, 0, 0, 0, 0, false, .ds⟩, some ⟨none, none, 1, 2, 2, 0, 0, true, .ds⟩, none, none, false, none⟩),
    ([0x0F#8, 0xA2#8], false, .err ⟨.invalidOpcode, 0, 0, .opcode, [0x0F#8, 0xA2#8]⟩),
    ([0x80#8, 0xF8#8, 0x05#8], false, .ok ⟨opcode "CMP" [], 3, false, false, some ⟨(some .al), none, 1, 0, 0, 0, 0, false, .ds⟩, some ⟨none, none, 1, 0, 0, 5, 1, false, .ds⟩, none, none, false, none⟩),
    ([0xC0#8, 0xE0#8, 0x04#8], false, .ok ⟨opcode "SHL" [], 3, false, false, some ⟨(some .al), none, 1, 0, 0, 0, 0, false, .ds⟩, some ⟨none, none, 1, 0, 0, 4, 1, false, .ds⟩, none, none, false, none⟩),
    ([0xFE#8, 0xC0#8], false, .ok ⟨opcode "INC" [], 2, false, false, some ⟨(some .al), none, 1, 0, 0, 0, 0, false, .ds⟩, none, none, none, false, none⟩),
    ([0xFF#8, 0x38#8], false, .err ⟨.invalidOpcode, 0, 0, .opcode, [0xFF#8, 0x38#8]⟩),
    ([0x0F#8, 0xBA#8, 0xE0#8, 0x03#8], false, .ok ⟨opcode "BT" [], 4, false, false, some ⟨(some .ax), none, 1, 0, 0, 0, 0, false, .ds⟩, some ⟨none, none, 1, 0, 0, 3, 1, false, .ds⟩, none, none, false, none⟩),
    ([0xD9#8, 0xC0#8], false, .err ⟨.unsupportedAddressingMode, 0, 0, .opcode, [0xD9#8]⟩),
    ([0x8B#8, 0x00#8], false, .ok ⟨opcode "MOV" [], 2, false, false, some ⟨(some .ax), none, 1, 0, 0, 0, 0, false, .ds⟩, some ⟨(some .bx), (some .si), 1, 0, 0, 0, 0, true, .ds⟩, none, none, false, none⟩),
    ([0x8B#8, 0x03#8], false, .ok ⟨opcode "MOV" [], 2, false, false, some ⟨(some .ax), none, 1, 0, 0, 0, 0, false, .ds⟩, some ⟨(some .bp), (some .di), 1, 0, 0, 0, 0, true, .ss⟩, none, none, false, none⟩),
    ([0x8B#8, 0x06#8, 0x34#8, 0x12#8], false, .ok ⟨opcode "MOV" [], 4, false, false, some ⟨(some .ax), none, 1, 0, 0, 0, 0, false, .ds⟩, some ⟨none, none, 1, 4660, 2, 0, 0, true, .ds⟩, none, none, false, none⟩),
    ([0x8B#8, 0x41#8, 0x10#8], false, .ok ⟨opcode "MOV" [], 3, false, false, some ⟨(some .ax), none, 1, 0, 0, 0, 0, false, .ds⟩, some ⟨(some .bx), (some .di), 1, 16, 1, 0, 0, true, .ds⟩, none, none, false, none⟩),
    ([0x8B#8, 0x44#8, 0x10#8], false, .ok ⟨opcode "MOV" [], 3, false, false, some ⟨(some .ax), none, 1, 0, 0, 0, 0, false, .ds⟩, some ⟨(some .si), none, 1, 16, 1, 0, 0, true, .ds⟩, none, none, false, none⟩),
    ([0x8B#8, 0x47#8, 0x10#8], false, .ok ⟨opcode "MOV" [], 3, false, false, some ⟨(some .ax), none, 1, 0, 0, 0, 0, false, .ds⟩, some ⟨(some .bx), none, 1, 16, 1, 0, 0, true, .ds⟩, none, none, false, none⟩),
    ([0x8B#8, 0x82#8, 0x34#8, 0x12#8], false, .ok ⟨opcode "MOV" [], 4, false, false, some ⟨(some .ax), none, 1, 0, 0, 0, 0, false, .ds⟩, some ⟨(some .bp), (some .si), 1, 4660, 2, 0, 0, true, .ss⟩, none, none, false, none⟩)] : List (List Byte × Bool × Response)) gives = true := by decide +kernel

-- M16.22 to M32.28: M16.22 M16.25 M16.28 M16.31 M16.34 M16.37 M32.1 M32.4 M32.7 M32.10 M32.13 M32.16 M32.19 M32.22 M32.25 M32.28
theorem test_vectors_1 : List.all ([
    ([0x8B#8, 0x85#8, 0x34#8, 0x12#8], false, .ok ⟨opcode "MOV" [], 4, false, false, some ⟨(some .ax), none, 1, 0, 0, 0, 0, false, .ds⟩, some ⟨(some .di), none, 1, 4660, 2, 0, 0, true, .ds⟩, none, none, false, none⟩),
    ([0x8B#8, 0x40#8, 0xFF#8], false, .ok ⟨opcode "MOV" [], 3, false, false, some ⟨(some .ax), none, 1, 0, 0, 0, 0, false, .ds⟩, some ⟨(some .bx), (some .si), 1, -1, 1, 0, 0, true, .ds⟩, none, none, false, none⟩),
    ([0x8B#8, 0x46#8, 0x00#8], false, .ok ⟨opcode "MOV" [], 3, false, false, some ⟨(some .ax), none, 1, 0, 0, 0, 0, false, .ds⟩, some ⟨(some .bp), none, 1, 0, 1, 0, 0, true, .ss⟩, none, none, false, none⟩),
    ([0x8B#8, 0xC2#8], false, .ok ⟨opcode "MOV" [], 2, false, false, some ⟨(some .ax), none, 1, 0, 0, 0, 0, false, .ds⟩, some ⟨(some .dx), none, 1, 0, 0, 0, 0, false, .ds⟩, none, none, false, none⟩),
    ([0x8B#8, 0xC5#8], false, .ok ⟨opcode "MOV" [], 2, false, false, some ⟨(some .ax), none, 1, 0, 0, 0, 0, false, .ds⟩, some ⟨(some .bp), none, 1, 0, 0, 0, 0, false, .ds⟩, none, none, false, none⟩),
    ([0x8B#8, 0x06#8, 0x34#8], false, .err ⟨.truncatedInstruction, 0, 2, .displacement, [0x34#8]⟩),
    ([0x8B#8, 0x00#8], true, .ok ⟨opcode "MOV" [], 2, true, true, some ⟨(some .eax), none, 1, 0, 0, 0, 0, false, .ds⟩, some ⟨(some .eax), none, 1, 0, 0, 0, 0, true, .ds⟩, none, none, false, none⟩),
    ([0x8B#8, 0x03#8], true, .ok ⟨opcode "MOV" [], 2, true, true, some ⟨(some .eax), none, 1, 0, 0, 0, 0, false, .ds⟩, some ⟨(some .ebx), none, 1, 0, 0, 0, 0, true, .ds⟩, none, none, false, none⟩),
    ([0x8B#8, 0x06#8], true, .ok ⟨opcode "MOV" [], 2, true, true, some ⟨(some .eax), none, 1, 0, 0, 0, 0, false, .ds⟩, some ⟨(some .esi), none, 1, 0, 0, 0, 0, true, .ds⟩, none, none, false, none⟩),
    ([0x8B#8, 0x41#8, 0x10#8], true, .ok ⟨opcode "MOV" [], 3, true, true, some ⟨(some .eax), none, 1, 0, 0, 0, 0, false, .ds⟩, some ⟨(some .ecx), none, 1, 16, 1, 0, 0, true, .ds⟩, none, none, false, none⟩),
    ([0x8B#8, 0x44#8, 0x00#8, 0x10#8], true, .ok ⟨opcode "MOV" [], 4, true, true, some ⟨(some .eax), none, 1, 0, 0, 0, 0, false, .ds⟩, some ⟨(some .eax), (some .eax), 1, 16, 1, 0, 0, true, .ds⟩, none, none, false, none⟩),
    ([0x8B#8, 0x47#8, 0x10#8], true, .ok ⟨opcode "MOV" [], 3, true, true, some ⟨(some .eax), none, 1, 0, 0, 0, 0, false, .ds⟩, some ⟨(some .edi), none, 1, 16, 1, 0, 0, true, .ds⟩, none, none, false, none⟩),
    ([0x8B#8, 0x82#8, 0x78#8, 0x56#8, 0x34#8, 0x12#8], true, .ok ⟨opcode "MOV" [], 6, true, true, some ⟨(some .eax), none, 1, 0, 0, 0, 0, false, .ds⟩, some ⟨(some .edx), none, 1, 305419896, 4, 0, 0, true, .ds⟩, none, none, false, none⟩),
    ([0x8B#8, 0x85#8, 0x78#8, 0x56#8, 0x34#8, 0x12#8], true, .ok ⟨opcode "MOV" [], 6, true, true, some ⟨(some .eax), none, 1, 0, 0, 0, 0, false, .ds⟩, some ⟨(some .ebp), none, 1, 305419896, 4, 0, 0, true, .ss⟩, none, none, false, none⟩),
    ([0x8B#8, 0x04#8, 0x0B#8], true, .ok ⟨opcode "MOV" [], 3, true, true, some ⟨(some .eax), none, 1, 0, 0, 0, 0, false, .ds⟩, some ⟨(some .ebx), (some .ecx), 1, 0, 0, 0, 0, true, .ds⟩, none, none, false, none⟩),
    ([0x8B#8, 0x04#8, 0xCB#8], true, .ok ⟨opcode "MOV" [], 3, true, true, some ⟨(some .eax), none, 1, 0, 0, 0, 0, false, .ds⟩, some ⟨(some .ebx), (some .ecx), 8, 0, 0, 0, 0, true, .ds⟩, none, none, false, none⟩)] : List (List Byte × Bool × Response)) gives = true := by decide +kernel

-- M32.31 to AM31: M32.31 M32.34 M32.37 M32.41 SG1 SG9 AM1 AM4 AM7 AM10 AM13 AM16 AM19 AM23 AM27 AM31
theorem test_vectors_2 : List.all ([
    ([0x8B#8, 0x04#8, 0x25#8, 0x00#8, 0x10#8, 0x00#8, 0x00#8], true, .ok ⟨opcode "MOV" [], 7, true, true, some ⟨(some .eax), none, 1, 0, 0, 0, 0, false, .ds⟩, some ⟨none, none, 1, 4096, 4, 0, 0, true, .ds⟩, none, none, false, none⟩),
    ([0x8B#8, 0x84#8, 0x8D#8, 0x00#8, 0x01#8, 0x00#8, 0x00#8], true, .ok ⟨opcode "MOV" [], 7, true, true, some ⟨(some .eax), none, 1, 0, 0, 0, 0, false, .ds⟩, some ⟨(some .ebp), (some .ecx), 4, 256, 4, 0, 0, true, .ss⟩, none, none, false, none⟩),
    ([0x8B#8, 0x05#8, 0xFC#8, 0xFF#8, 0xFF#8, 0xFF#8], true, .ok ⟨opcode "MOV" [], 6, true, true, some ⟨(some .eax), none, 1, 0, 0, 0, 0, false, .ds⟩, some ⟨none, none, 1, 4294967292, 4, 0, 0, true, .ds⟩, none, none, false, none⟩),
    ([0x8B#8, 0x05#8, 0x00#8, 0x10#8, 0x00#8], true, .err ⟨.truncatedInstruction, 0, 2, .displacement, [0x00#8, 0x10#8, 0x00#8]⟩),
    ([0x8B#8, 0x46#8, 0x02#8], false, .ok ⟨opcode "MOV" [], 3, false, false, some ⟨(some .ax), none, 1, 0, 0, 0, 0, false, .ds⟩, some ⟨(some .bp), none, 1, 2, 1, 0, 0, true, .ss⟩, none, none, false, none⟩),
    ([0xAC#8], false, .ok ⟨opcode "LODSB" [], 1, false, false, some ⟨(some .al), none, 1, 0, 0, 0, 0, false, .ds⟩, some ⟨(some .si), none, 1, 0, 0, 0, 0, true, .ds⟩, none, none, false, none⟩),
    ([0x8C#8, 0xD8#8], false, .ok ⟨opcode "MOV" [], 2, false, false, some ⟨(some .ax), none, 1, 0, 0, 0, 0, false, .ds⟩, some ⟨(some (.seg .ds)), none, 1, 0, 0, 0, 0, false, .ds⟩, none, none, false, none⟩),
    ([0x8E#8, 0x3F#8], false, .err ⟨.invalidOpcode, 0, 0, .opcode, [0x8E#8, 0x3F#8]⟩),
    ([0x0F#8, 0x21#8, 0xF8#8], true, .ok ⟨opcode "MOV" [], 3, true, true, some ⟨(some .eax), none, 1, 0, 0, 0, 0, false, .ds⟩, some ⟨(some .dr7), none, 1, 0, 0, 0, 0, false, .ds⟩, none, none, false, none⟩),
    ([0x0F#8, 0x20#8, 0xE8#8], true, .ok ⟨opcode "MOV" [], 3, true, true, some ⟨(some .eax), none, 1, 0, 0, 0, 0, false, .ds⟩, some ⟨(some .cr5), none, 1, 0, 0, 0, 0, false, .ds⟩, none, none, false, none⟩),
    ([0xC4#8, 0x1E#8, 0x00#8, 0x02#8], false, .ok ⟨opcode "LES" [], 4, false, false, some ⟨(some .bx), none, 1, 0, 0, 0, 0, false, .ds⟩, some ⟨none, none, 1, 512, 2, 0, 0, true, .ds⟩, none, none, false, none⟩),
    ([0xA2#8, 0x34#8], false, .err ⟨.truncatedInstruction, 0, 1, .offset, [0x34#8]⟩),
    ([0x68#8, 0x34#8, 0x12#8], false, .ok ⟨opcode "PUSH" [], 3, false, false, some ⟨none, none, 1, 0, 0, 4660, 2, false, .ds⟩, none, none, none, false, none⟩),
    ([0xEB#8, 0xFE#8], false, .ok ⟨opcode "JMP" [], 2, false, false, some ⟨none, none, 1, 0, 0, 254, 1, false, .ds⟩, none, none, none, false, none⟩),
    ([0xEA#8, 0x00#8, 0x01#8, 0x00#8, 0xF0#8], false, .ok ⟨opcode "JMPF" [], 5, false, false, some ⟨none, none, 1, 0, 0, 256, 2, false, .ds⟩, some ⟨none, none, 1, 0, 0, 61440, 2, false, .ds⟩, none, none, false, none⟩),
    ([0xD3#8, 0xE0#8], false, .ok ⟨opcode "SHL" [], 2, false, false, some ⟨(some .ax), none, 1, 0, 0, 0, 0, false, .ds⟩, some ⟨(some .cl), none, 1, 0, 0, 0, 0, false, .ds⟩, none, none, false, none⟩)] : List (List Byte × Bool × Response)) gives = true := by decide +kernel

-- AM34 to V46.1: AM34 AM38 FL1 FL5 FL8 FL11 FL15 V44.1 V44.14 V44.27 V45.1 V45.18 V45.30 V45.42 V45.54 V46.1
theorem test_vectors_3 : List.all ([
    ([0x40#8], false, .ok ⟨opcode "INC" [], 1, false, false, some ⟨(some .ax), none, 1, 0, 0, 0, 0, false, .ds⟩, none, none, none, false, none⟩),
    ([0x91#8], false, .ok ⟨opcode "XCHG" [], 1, false, false, some ⟨(some .cx), none, 1, 0, 0, 0, 0, false, .ds⟩, some ⟨(some .ax), none, 1, 0, 0, 0, 0, false, .ds⟩, none, none, false, none⟩),
    ([0xF1#8], false, .err ⟨.invalidOpcode, 0, 0, .opcode, [0xF1#8]⟩),
    ([], false, .err ⟨.truncatedInstruction, 0, 0, .opcode, []⟩),
    ([0x81#8, 0x84#8, 0x00#8, 0x01#8, 0x78#8], false, .err ⟨.truncatedInstruction, 0, 4, .immediate, [0x78#8]⟩),
    ([0x0F#8, 0x84#8, 0x00#8], false, .err ⟨.truncatedInstruction, 0, 2, .immediate, [0x00#8]⟩),
    ([0xFF#8, 0xFF#8], false, .err ⟨.invalidOpcode, 0, 0, .opcode, [0xFF#8, 0xFF#8]⟩),
    ([0x00#8, 0xD8#8], false, .ok ⟨opcode "ADD" [], 2, false, false, some ⟨(some .al), none, 1, 0, 0, 0, 0, false, .ds⟩, some ⟨(some .bl), none, 1, 0, 0, 0, 0, false, .ds⟩, none, none, false, none⟩),
    ([0x1E#8], false, .ok ⟨opcode "PUSH" [], 1, false, false, some ⟨(some (.seg .ds)), none, 1, 0, 0, 0, 0, false, .ds⟩, none, none, none, false, none⟩),
    ([0x38#8, 0xC0#8], false, .ok ⟨opcode "CMP" [], 2, false, false, some ⟨(some .al), none, 1, 0, 0, 0, 0, false, .ds⟩, some ⟨(some .al), none, 1, 0, 0, 0, 0, false, .ds⟩, none, none, false, none⟩),
    ([0x60#8], false, .ok ⟨opcode "PUSHA" [], 1, false, false, none, none, none, none, false, none⟩),
    ([0x6F#8], false, .ok ⟨opcode "OUTSW" [], 1, false, false, some ⟨(some .dx), none, 1, 0, 0, 0, 0, false, .ds⟩, some ⟨(some .si), none, 1, 0, 0, 0, 0, true, .ds⟩, none, none, false, none⟩),
    ([0x7B#8, 0x00#8], false, .ok ⟨opcode "JNP" [], 2, false, false, some ⟨none, none, 1, 0, 0, 0, 1, false, .ds⟩, none, none, none, false, none⟩),
    ([0x80#8, 0xF8#8, 0x01#8], false, .ok ⟨opcode "CMP" [], 3, false, false, some ⟨(some .al), none, 1, 0, 0, 0, 0, false, .ds⟩, some ⟨none, none, 1, 0, 0, 1, 1, false, .ds⟩, none, none, false, none⟩),
    ([0x8A#8, 0x07#8], false, .ok ⟨opcode "MOV" [], 2, false, false, some ⟨(some .al), none, 1, 0, 0, 0, 0, false, .ds⟩, some ⟨(some .bx), none, 1, 0, 0, 0, 0, true, .ds⟩, none, none, false, none⟩),
    ([0x90#8], false, .ok ⟨opcode "NOP" [], 1, false, false, none, none, none, none, false, none⟩)] : List (List Byte × Bool × Response)) gives = true := by decide +kernel

-- V46.15 to V49.50: V46.15 V46.28 V46.40 V46.52 V47.1 V47.14 V47.27 V48.1 V48.14 V48.29 V48.41 V49.1 V49.13 V49.25 V49.37 V49.50
theorem test_vectors_4 : List.all ([
    ([0xA0#8, 0x00#8, 0x01#8], false, .ok ⟨opcode "MOV" [], 3, false, false, some ⟨(some .al), none, 1, 0, 0, 0, 0, false, .ds⟩, some ⟨none, none, 1, 256, 2, 0, 0, true, .ds⟩, none, none, false, none⟩),
    ([0xAC#8], false, .ok ⟨opcode "LODSB" [], 1, false, false, some ⟨(some .al), none, 1, 0, 0, 0, 0, false, .ds⟩, some ⟨(some .si), none, 1, 0, 0, 0, 0, true, .ds⟩, none, none, false, none⟩),
    ([0xC4#8, 0x07#8], false, .ok ⟨opcode "LES" [], 2, false, false, some ⟨(some .ax), none, 1, 0, 0, 0, 0, false, .ds⟩, some ⟨(some .bx), none, 1, 0, 0, 0, 0, true, .ds⟩, none, none, false, none⟩),
    ([0xCE#8], false, .ok ⟨opcode "INTO" [], 1, false, false, none, none, none, none, false, none⟩),
    ([0xD0#8, 0xC0#8], false, .ok ⟨opcode "ROL" [], 2, false, false, some ⟨(some .al), none, 1, 0, 0, 0, 0, false, .ds⟩, some ⟨none, none, 1, 0, 0, 1, 1, false, .ds⟩, none, none, false, none⟩),
    ([0xD5#8, 0x0A#8], false, .ok ⟨opcode "AAD" [], 2, false, false, some ⟨none, none, 1, 0, 0, 10, 1, false, .ds⟩, none, none, none, false, none⟩),
    ([0xD4#8], false, .err ⟨.truncatedInstruction, 0, 1, .immediate, []⟩),
    ([0xE0#8, 0xFE#8], false, .ok ⟨opcode "LOOPNE" [], 2, false, false, some ⟨none, none, 1, 0, 0, 254, 1, false, .ds⟩, none, none, none, false, none⟩),
    ([0xEB#8, 0x00#8], false, .ok ⟨opcode "JMP" [], 2, false, false, some ⟨none, none, 1, 0, 0, 0, 1, false, .ds⟩, none, none, none, false, none⟩),
    ([0xF6#8, 0xE8#8], false, .ok ⟨opcode "IMUL" [], 2, false, false, some ⟨(some .al), none, 1, 0, 0, 0, 0, false, .ds⟩, none, none, none, false, none⟩),
    ([0xFE#8, 0xC0#8], false, .ok ⟨opcode "INC" [], 2, false, false, some ⟨(some .al), none, 1, 0, 0, 0, 0, false, .ds⟩, none, none, none, false, none⟩),
    ([0x0F#8, 0x00#8, 0xC0#8], false, .ok ⟨opcode "SLDT" [], 3, false, false, some ⟨(some .ax), none, 1, 0, 0, 0, 0, false, .ds⟩, none, none, none, false, none⟩),
    ([0x0F#8, 0x01#8, 0x30#8], false, .ok ⟨opcode "LMSW" [], 3, false, false, some ⟨(some .bx), (some .si), 1, 0, 0, 0, 0, true, .ds⟩, none, none, none, false, none⟩),
    ([0x0F#8, 0x26#8, 0xC0#8], false, .ok ⟨opcode "MOV" [], 3, false, false, some ⟨(some .tr0), none, 1, 0, 0, 0, 0, false, .ds⟩, some ⟨(some .eax), none, 1, 0, 0, 0, 0, false, .ds⟩, none, none, false, none⟩),
    ([0x0F#8, 0xAB#8, 0xC0#8], false, .ok ⟨opcode "BTS" [], 3, false, false, some ⟨(some .ax), none, 1, 0, 0, 0, 0, false, .ds⟩, some ⟨(some .ax), none, 1, 0, 0, 0, 0, false, .ds⟩, none, none, false, none⟩),
    ([0x0F#8, 0xBA#8, 0xF0#8, 0x01#8], false, .ok ⟨opcode "BTR" [], 4, false, false, some ⟨(some .ax), none, 1, 0, 0, 0, 0, false, .ds⟩, some ⟨none, none, 1, 0, 0, 1, 1, false, .ds⟩, none, none, false, none⟩)] : List (List Byte × Bool × Response)) gives = true := by decide +kernel

-- the row a table word stands for runs as the first step after reset (withFetchWord, log entry 2)
theorem test_fetch_word : stepResponse (State.reset.withFetchWord 8 0xF4) =
    some (.ok ⟨opcode "HLT" [], 1, false, false, none, none, none, none, false, none⟩) ∧
    stepResponse (State.reset.withFetchWord 16 0x0F06) =
    some (.ok ⟨opcode "CLTS" [], 2, false, false, none, none, none, none, false, none⟩) := by decide +kernel

end Steps

/-! ## Witnesses

For every obligation with hypotheses, a state and operands that meet them all, for each clause at a boundary
of its range. -/

section Witnesses

theorem serving_fresh (bytes : List Byte) (is32 : Bool) :
    Serving (fresh bytes is32) (Latches.start (request bytes is32)) :=
  ⟨rfl, rfl, rfl, rfl, rfl, ⟨rfl, rfl, rfl, rfl, rfl, rfl, Nat.le_refl _, fun _ => ⟨rfl, rfl⟩, fun _ h => nomatch h⟩⟩

theorem serving_escaped (bytes : List Byte) (is32 : Bool) :
    Serving (escaped bytes is32) (pastEscape bytes is32) := by
  refine ⟨rfl, rfl, rfl, rfl, rfl, ⟨rfl, rfl, rfl, rfl, rfl, rfl, Nat.le_refl _, fun h => ?_, fun o h => ?_⟩⟩
  · cases h
  · cases h; exact ⟨rfl, rfl, rfl⟩

theorem inv_fresh (bytes : List Byte) (is32 : Bool) (h : (Memory.ofBytes bytes).wf = true) :
    Inv (fresh bytes is32) where
  fresh := fun h => nomatch h
  tables := fun _ => ⟨rfl, rfl⟩
  view := fun r hr => by cases hr; exact h
  inProgress := fun l hl => by cases hl; exact ⟨rfl, Nat.le_max_left ..⟩
  scanning := fun l hl _ => by cases hl; exact (serving_fresh bytes is32).scanning
  answered := fun _ h => nomatch h
  failed := fun _ h => nomatch h

theorem inv_idle : Inv idle where
  fresh := fun h => nomatch h
  tables := fun _ => ⟨rfl, rfl⟩
  view := fun _ h => nomatch h
  inProgress := fun _ h => nomatch h
  scanning := fun _ h => nomatch h
  answered := fun _ h => nomatch h
  failed := fun _ h => nomatch h

theorem witness_initialisation :
    (State.reset.initialized = false ∧ State.reset.request = none) ∧
    (idle.initialized = true ∧ step idle = .next idle) ∧
    ((State.reset.present (request [0x90#8] false)).initialized = false ∧
      (State.reset.present (request [0x90#8] false)).request = some (request [0x90#8] false)) :=
  ⟨⟨rfl, rfl⟩, ⟨rfl, rfl⟩, rfl, rfl⟩

theorem witness_acceptStartsFresh : ∃ (s : State) (r : Request),
    s.initialized = true ∧ s.response = none ∧ s.latches = none ∧ s.request = some r :=
  ⟨idle.present (request [0x90#8] true), _, rfl, rfl, rfl, rfl⟩

theorem witness_sendAndIdle :
    (∃ (s : State) (p : Response), s.initialized = true ∧ s.response = some p) ∧
    (∃ s : State, s.initialized = true ∧ s.request = none ∧ s.response = none ∧ s.latches = none) :=
  ⟨⟨{ idle with response := some (.err ⟨.invalidOpcode, 0, 0, .opcode, [0xD6#8]⟩) }, _, rfl, rfl⟩,
    idle, rfl, rfl, rfl, rfl⟩

theorem witness_invariantStep : (∃ s t : State, Inv s ∧ step s = .next t) ∧
    ∃ t : State, Inv (fresh [0x26#8, 0x90#8] false) ∧ step (fresh [0x26#8, 0x90#8] false) = .next t ∧
      t.response = none :=
  ⟨⟨idle, idle, inv_idle, rfl⟩, _, inv_fresh _ _ (by decide), by rfl, rfl⟩

theorem witness_invariantPresent : ∃ (s : State) (r : Request), Inv s ∧ s.request = none ∧ r.view.wf = true ∧
    s.initialized = true :=
  ⟨idle, request [0x90#8] false, inv_idle, rfl, by decide, rfl⟩

theorem witness_prefixRows : ∃ (s : State) (l : Latches), s.latches = some l := ⟨fresh [] false, _, rfl⟩

theorem witness_failingRows : ∃ (s : State) (l : Latches), s.latches = some l := ⟨fresh [0xD8#8] true, _, rfl⟩

theorem witness_serving : ∃ (s : State) (l : Latches), Serving s l := ⟨_, _, serving_fresh [0x90#8] false⟩

theorem witness_servingEscaped : ∃ (s : State) (l : Latches), Serving s l ∧ l.opcAt = some 0 ∧ s.fetch l = [0x06#8] :=
  ⟨_, _, serving_escaped [0x0F#8, 0x06#8] true, rfl, by decide⟩

theorem witness_prefixBytes (b : Byte) : ∃ (s : State) (l : Latches) (rest : List Byte), Serving s l ∧
    l.opcAt = none ∧ s.fetch l = b :: rest :=
  ⟨_, _, [], serving_fresh [b] false, rfl, rfl⟩

theorem witness_prefixBytes_other : ∃ (s t : State) (l : Latches) (ins : Instruction), Serving s l ∧
    l.opcAt = none ∧ s.fetch l = [0x90#8] ∧ step s = .next t ∧ t.response = some (.ok ins) ∧
    0x90#8 ∉ [0x26#8, 0x2E#8, 0x36#8, 0x3E#8, 0x64#8, 0x65#8, 0x66#8, 0x67#8, 0xF0#8, 0xF2#8, 0xF3#8] :=
  ⟨_, after (fresh [0x90#8] false), _, _, serving_fresh [0x90#8] false, rfl, rfl, by rfl, by rfl, by decide⟩

theorem witness_prefixRunEffect : ∃ (run : List Instr) (s : State) (l : Latches),
    (∀ i ∈ run, isPrefixRow i = true) ∧ s.latches = some l ∧ 2 ≤ run.length :=
  ⟨[.prefixES, .prefixGS, .prefixREP], fresh [] false, _, by decide, rfl, by decide⟩

theorem witness_prefixState : ∃ (s t : State) (l l' : Latches), Inv s ∧ Serving s l ∧ step s = .next t ∧
    t.latches = some l' ∧ t.response = none ∧
    prefixRun (l.req.view.bytesFrom l.req.offset l.opcodeAt) PrefixState.start = some l.ps :=
  ⟨_, _, _, _, inv_fresh [0x26#8, 0x90#8] false (by decide), serving_fresh _ _, by rfl, rfl, rfl, by decide⟩

theorem witness_escapeRow : ∃ (s : State) (l : Latches), Serving s l ∧ l.opcAt = none :=
  ⟨_, _, serving_fresh [0x0F#8, 0x06#8] false, rfl⟩

theorem witness_attributesReported : ∃ (s t : State) (l : Latches) (ins : Instruction), Serving s l ∧
    step s = .next t ∧ t.response = some (.ok ins) :=
  ⟨_, after (fresh [0x90#8] true), _, _, serving_fresh [0x90#8] true, by rfl, by rfl⟩

theorem witness_noEntryFails :
    (∃ (s : State) (l : Latches) (rest : List Byte), Serving s l ∧ KeyAt s l (.one 0xD6#8) rest ∧
      s.opcodeTable.find (.one 0xD6#8) = none) ∧
    (∃ (s : State) (l : Latches) (rest : List Byte), Serving s l ∧ KeyAt s l (.two 0xFF#8) rest ∧
      s.opcodeTable.find (.two 0xFF#8) = none) :=
  ⟨⟨_, _, [], serving_fresh [0xD6#8] false, ⟨rfl, by decide, by decide⟩, by decide +kernel⟩,
    _, _, [0x00#8], serving_escaped [0x0F#8, 0xFF#8, 0x00#8] false, ⟨rfl, by decide⟩, by decide +kernel⟩

/-- The group at 8F: slot 0 is POP, the others are empty. -/
abbrev popGroup : List (Option OpcodeDescriptor) := some (opcode "POP" [.E .v]) :: List.replicate 7 none

theorem witness_group_truncated : ∃ (s : State) (l : Latches), Serving s l ∧
    s.opcodeTable.find (.one 0x8F#8) = some (.group popGroup) ∧ KeyAt s l (.one 0x8F#8) [] :=
  ⟨_, _, serving_fresh [0x8F#8] false, by decide +kernel, rfl, by decide, by decide⟩

theorem witness_group_emptySlot : ∃ (s : State) (l : Latches), Serving s l ∧
    s.opcodeTable.find (.one 0x8F#8) = some (.group popGroup) ∧ KeyAt s l (.one 0x8F#8) [0b11001000#8] ∧
    popGroup[((0b11001000#8).extractLsb' 3 3).toNat]?.join = none :=
  ⟨_, _, serving_fresh [0x8F#8, 0b11001000#8] false, by decide +kernel, ⟨rfl, by decide, by decide⟩, by decide⟩

theorem witness_group_answered : ∃ (s t : State) (l : Latches) (ins : Instruction), Serving s l ∧
    s.opcodeTable.find (.one 0x8F#8) = some (.group popGroup) ∧ KeyAt s l (.one 0x8F#8) [0b11000000#8] ∧
    popGroup[((0b11000000#8).extractLsb' 3 3).toNat]? = some (some (opcode "POP" [.E .v])) ∧
    step s = .next t ∧ t.response = some (.ok ins) :=
  ⟨_, after (fresh [0x8F#8, 0b11000000#8] false), _, _, serving_fresh [0x8F#8, 0b11000000#8] false,
    by decide +kernel, ⟨rfl, by decide, by decide⟩, by decide, by rfl, by rfl⟩

theorem witness_unsupportedFirst : ∃ (s : State) (l : Latches), Serving s l ∧ KeyAt s l (.one 0xD8#8) [0x00#8] ∧
    FinalDescriptor s.opcodeTable (.one 0xD8#8) [0x00#8] (opcode "ESC" [.fpu]) ∧
    Spec.fpu ∈ (opcode "ESC" [.fpu]).specs :=
  ⟨_, _, serving_fresh [0xD8#8, 0x00#8] false, ⟨rfl, by decide, by decide⟩, Or.inl (by decide +kernel), by decide⟩

theorem witness_keyIndependentOfWidths : ∃ (d d' : Decoded) (r r' : List Byte),
    decodeRow defaultTable .oneByte w16 [0x05#8, 1#8, 2#8, 3#8, 4#8] = .ok (d, r) ∧
    decodeRow defaultTable .oneByte w32 [0x05#8, 1#8, 2#8, 3#8, 4#8] = .ok (d', r') ∧ d ≠ d' :=
  ⟨.row (.add_05 (.f16 0x0201#16)), .row (.add_05 (.f32 0x04030201#32)), [3#8, 4#8], [],
    by decide +kernel, by decide +kernel, by decide⟩

/-- What the resolver reads of a request with that ModRM byte, at both widths 16. -/
abbrev context (m : ModRM) (mo : Option MemoryOperand) (seg : Option SegReg) : Ctx :=
  ⟨RegisterTable.fixed, .s16, .s16, seg, .one 0x8E#8, some m, mo⟩

theorem witness_segmentOperand :
    (∃ (c : Ctx) (m : ModRM), c.regs = RegisterTable.fixed ∧ c.modrm = some m ∧ m.reg.toNat < 6 ∧
      m.reg.toNat = 5) ∧
    (∀ reg ∈ [0b11110000#8, 0b11111000#8], ∃ (s : State) (l : Latches), Serving s l ∧
      KeyAt s l (.one 0x8C#8) [reg] ∧
      FinalDescriptor s.opcodeTable (.one 0x8C#8) [reg] (opcode "MOV" [.E .w, .S .w]) ∧
      Spec.fpu ∉ (opcode "MOV" [.E .w, .S .w]).specs ∧ Spec.S .w ∈ (opcode "MOV" [.E .w, .S .w]).specs ∧
      (reg.extractLsb' 3 3 = 6#3 ∨ reg.extractLsb' 3 3 = 7#3)) := by
  refine ⟨⟨context ⟨3#2, 5#3, 0#3⟩ none none, _, rfl, rfl, by decide, by decide⟩, fun reg h => ?_⟩
  have hd : idle.opcodeTable.find (.one 0x8C#8) = some (.desc (opcode "MOV" [.E .w, .S .w])) := by decide +kernel
  refine ⟨_, _, serving_fresh [0x8C#8, reg] false, ⟨rfl, by decide, rfl⟩, Or.inl hd, by decide, by decide, ?_⟩
  revert reg
  decide

theorem witness_segmentRows : ∃ (s : State) (l : Latches), Serving s l ∧ (5#3).toNat < 6 ∧ 6 ≤ (6#3).toNat :=
  ⟨_, _, serving_fresh [0x8E#8, 0xE8#8] false, by decide, by decide⟩

theorem witness_emptyFetch :
    (∃ (s : State) (l : Latches), Serving s l ∧ s.fetch l = [] ∧ l.opcAt = none) ∧
    (∃ (s : State) (l : Latches), Serving s l ∧ s.fetch l = [] ∧ l.opcAt = some 0) :=
  ⟨⟨_, _, serving_fresh [] false, by decide, rfl⟩, _, _, serving_escaped [0x0F#8] false, by decide, rfl⟩

theorem witness_failureRecords : ∀ x ∈ [([0xD6#8], FailKind.invalidOpcode),
      ([0xD8#8], .unsupportedAddressingMode), ([0x05#8, 0x01#8], .truncatedInstruction)],
    Inv (fresh x.1 false) ∧ Serving (fresh x.1 false) (Latches.start (request x.1 false)) ∧
    ∃ f : Failure, stepResponse (fresh x.1 false) = some (.err f) ∧ f.kind = x.2 := by
  simp only [List.forall_mem_cons]
  exact ⟨⟨inv_fresh _ _ (by decide), serving_fresh _ _, ⟨.invalidOpcode, 0, 0, .opcode, [0xD6#8]⟩,
      by decide +kernel, rfl⟩,
    ⟨inv_fresh _ _ (by decide), serving_fresh _ _, ⟨.unsupportedAddressingMode, 0, 0, .opcode, [0xD8#8]⟩,
      by decide +kernel, rfl⟩,
    ⟨inv_fresh _ _ (by decide), serving_fresh _ _, ⟨.truncatedInstruction, 0, 1, .immediate, [0x01#8]⟩,
      by decide +kernel, rfl⟩, fun _ h => nomatch h⟩

/-- A request whose row, with final descriptor `d`, is cut off in `field`, of `n` bytes, `p` bytes after its key:
what the second part of FailureRecords asks for. -/
def CutRow (b : Byte) (rest : List Byte) (is32 : Bool) (d : OpcodeDescriptor) (field : FailField) (n p : Nat) : Prop :=
  ∃ (s : State) (l : Latches), Serving s l ∧ l.req.is32 = is32 ∧ KeyAt s l (.one b) rest ∧
    FinalDescriptor s.opcodeTable (.one b) rest d ∧ Spec.fpu ∉ d.specs ∧
    (∀ m more, rest = m :: more → (∃ ty, Spec.S ty ∈ d.specs) → (m.extractLsb' 3 3).toNat < 6) ∧
    FirstCut (rowFields l.attrs (isGroup s.opcodeTable (.one b)) d rest) rest field n p

theorem cutRow_of {b : Byte} {rest : List Byte} {is32 : Bool} {d : OpcodeDescriptor} {field : FailField} {n p : Nat}
    (hb : b ∉ scannerBytes) (hf : (fresh (b :: rest) is32).fetch (Latches.start (request (b :: rest) is32)) = b :: rest)
    (hd : defaultTable.find (.one b) = some (.desc d)) (hx : Spec.fpu ∉ d.specs) (hs : ∀ ty, Spec.S ty ∉ d.specs)
    (before after : List (Nat × FailField))
    (hr : rowFields (Latches.start (request (b :: rest) is32)).attrs false d rest = before ++ (n, field) :: after)
    (hp : p = (before.map Prod.fst).sum ∧ p ≤ rest.length ∧ rest.length < p + n) :
    CutRow b rest is32 d field n p := by
  have hg : isGroup (fresh (b :: rest) is32).opcodeTable (.one b) = false := by
    change isGroup defaultTable _ = _
    simp only [isGroup, hd]
  refine ⟨_, _, serving_fresh (b :: rest) is32, rfl, ⟨rfl, hb, hf⟩, Or.inl hd, hx, fun _ _ _ h => ?_, ?_⟩
  · exact absurd h.choose_spec (hs _)
  · rw [hg]
    exact ⟨before, after, hr, hp⟩

-- the examples of 60_exceptions.md R902, one for each field
theorem witness_cut_modrm : CutRow 0x8B#8 [] false (opcode "MOV" [.G .v, .E .v]) .modrm 1 0 :=
  cutRow_of (by decide) (by decide) (by decide +kernel) (by decide) (by rintro ⟨⟩ <;> decide) [] [] (by decide) (by decide)

theorem witness_cut_sib : CutRow 0x8B#8 [0x04#8] true (opcode "MOV" [.G .v, .E .v]) .sib 1 1 :=
  cutRow_of (by decide) (by decide) (by decide +kernel) (by decide) (by rintro ⟨⟩ <;> decide) [(1, .modrm)] [] (by decide) (by decide)

theorem witness_cut_displacement8 :
    CutRow 0x8B#8 [0x44#8, 0x24#8] true (opcode "MOV" [.G .v, .E .v]) .displacement 1 2 :=
  cutRow_of (by decide) (by decide) (by decide +kernel) (by decide) (by rintro ⟨⟩ <;> decide) [(1, .modrm), (1, .sib)] []
    (by decide) (by decide)

theorem witness_cut_displacement16 :
    CutRow 0x8A#8 [0x06#8, 0x02#8] false (opcode "MOV" [.G .b, .E .b]) .displacement 2 1 :=
  cutRow_of (by decide) (by decide) (by decide +kernel) (by decide) (by rintro ⟨⟩ <;> decide) [(1, .modrm)] [] (by decide) (by decide)

theorem witness_cut_offset : CutRow 0xA1#8 [0x00#8, 0x00#8] true (opcode "MOV" [.fixed .eAX, .O .v]) .offset 4 0 :=
  cutRow_of (by decide) (by decide) (by decide +kernel) (by decide) (by rintro ⟨⟩ <;> decide) [] [] (by decide) (by decide)

theorem witness_cut_immediate :
    CutRow 0xEA#8 [0x00#8, 0x01#8, 0x00#8] false (opcode "JMPF" [.I .v, .I .w]) .immediate 2 2 :=
  cutRow_of (by decide) (by decide) (by decide +kernel) (by decide) (by rintro ⟨⟩ <;> decide) [(2, .immediate)] []
    (by decide) (by decide)

theorem witness_registerSelection : ∃ c : Ctx, c.regs = RegisterTable.fixed ∧ c.osz = .s16 :=
  ⟨context ⟨3#2, 0#3, 7#3⟩ none none, rfl, rfl⟩

theorem witness_memoryPart16 : (0#2 : BitVec 2) ≠ 3#2 ∧ (2#2 : BitVec 2) ≠ 3#2 := by decide

theorem witness_memoryPart32 : (0#2 : BitVec 2) ≠ 3#2 ∧ (2#2 : BitVec 2) ≠ 3#2 ∧ (5#3 : BitVec 3) ≠ 4#3 := by
  decide

theorem witness_segmentResolution :
    (∃ (c : Ctx) (sp : Spec) (r : SegReg), (∀ t, sp ≠ .Y t) ∧ c.seg = some r) ∧
    (∃ (c : Ctx) (sp : Spec) (m : ModRM) (mo : MemoryOperand), c.seg = none ∧
      ((∃ t, sp = .E t) ∨ ∃ t, sp = .M t) ∧ c.modrm = some m ∧ m.mod ≠ 3#2 ∧ c.mem = some mo ∧
      mo.base = some .bp) ∧
    (∃ (c : Ctx) (sp : Spec), c.seg = none ∧ (∀ t, sp ≠ .Y t) ∧ (∃ t, sp = .E t) ∧
      (((∃ t, sp = .E t) ∨ ∃ t, sp = .M t) → ∃ m, c.modrm = some m ∧ m.mod = 3#2)) := by
  refine ⟨⟨context ⟨3#2, 0#3, 0#3⟩ none (some .gs), .X .b, .gs, by simp, rfl⟩,
    ⟨context ⟨0#2, 0#3, 2#3⟩ (some ⟨some .bp, some .si, 1, 0, 0⟩) none, .M none, ⟨0#2, 0#3, 2#3⟩, _, rfl,
      Or.inr ⟨none, rfl⟩, rfl, by decide, rfl, rfl⟩,
    context ⟨3#2, 0#3, 0#3⟩ none none, .E .v, rfl, by simp, ⟨_, rfl⟩, fun _ => ⟨_, rfl, rfl⟩⟩

theorem witness_modrmOperands :
    (∃ (c : Ctx) (m : ModRM), c.regs = RegisterTable.fixed ∧ c.modrm = some m ∧ m.mod = 3#2) ∧
    (∃ (c : Ctx) (m : ModRM) (mo : MemoryOperand), c.regs = RegisterTable.fixed ∧ c.modrm = some m ∧
      m.mod ≠ 3#2 ∧ c.mem = some mo) :=
  ⟨⟨context ⟨3#2, 0#3, 0#3⟩ none none, _, rfl, rfl, rfl⟩,
    context ⟨0#2, 0#3, 6#3⟩ (some ⟨none, none, 1, 0x1234, 2⟩) none, ⟨0#2, 0#3, 6#3⟩, _, rfl, rfl, by decide, rfl⟩

theorem witness_trailingOperands : ∃ sp : Spec, (∀ t, sp ≠ .I t) ∧ (∀ t, sp ≠ .J t) ∧ (∀ t, sp ≠ .O t) :=
  ⟨.one, by simp, by simp, by simp⟩

theorem witness_implicitOperands : ∃ (c : Ctx) (b : Byte), c.key = .one b ∨ c.key = .two b :=
  ⟨context ⟨3#2, 0#3, 0#3⟩ none none, 0x8E#8, Or.inl rfl⟩

theorem witness_consumerValues : ∃ (c : Ctx) (f : Field) (v : Nat), c.osz = .s16 ∧ f.size = c.asz.bytes ∧
    v < 2 ^ (8 * c.asz.bytes) ∧ 2 ^ (8 * c.asz.bytes) ≤ 2 * v :=
  ⟨context ⟨0#2, 0#3, 6#3⟩ none none, .f16 0xFFFF#16, 0x8000, rfl, rfl, by decide, by decide⟩

theorem witness_consumerValues32 : ∃ c : Ctx, c.osz = .s32 :=
  ⟨{ context ⟨0#2, 0#3, 6#3⟩ none none with osz := .s32 }, rfl⟩

theorem witness_operands : ∃ (s t : State) (ins : Instruction), step s = .next t ∧ s.response = none ∧
    t.response = some (.ok ins) ∧ ins.operands.length = 2 :=
  ⟨fresh [0x01#8, 0b11000001#8] false, after (fresh [0x01#8, 0b11000001#8] false), _, by rfl, rfl, by rfl, by rfl⟩

theorem witness_operandOfSpec : ∃ (s t : State) (l : Latches) (row : Decoded) (rest : List Byte)
    (ins : Instruction), Serving s l ∧
    decodeRow s.opcodeTable l.opMap l.attrs (s.fetch l) = .ok (row, rest) ∧ step s = .next t ∧
    t.response = some (.ok ins) ∧ ins.opcodeDescriptor.specs[2]? = some (.I .v) ∧ trails (.I .v) = true :=
  ⟨_, after (fresh [0x69#8, 0xC1#8, 0x34#8, 0x12#8] false), _,
    .row (.imul_69 0#3 ⟨3#2, 1#3, none, .absent⟩ (.f16 0x1234#16)), [], _,
    serving_fresh [0x69#8, 0xC1#8, 0x34#8, 0x12#8] false, by decide +kernel, by rfl, by rfl, by rfl, rfl⟩

theorem witness_servesTheDecodedRow :
    (∃ (s : State) (l : Latches) (i : Instr) (rest : List Byte), Serving s l ∧
      decodeRow s.opcodeTable l.opMap l.attrs (s.fetch l) = .ok (.row i, rest)) ∧
    (∃ (s : State) (l : Latches) (k : Key) (d : OpcodeDescriptor) (f : Fields) (rest : List Byte),
      Serving s l ∧ decodeRow s.opcodeTable l.opMap l.attrs (s.fetch l) = .ok (.configured k d f, rest)) ∧
    (∃ (s : State) (l : Latches) (e : DecodeError), Serving s l ∧
      decodeRow s.opcodeTable l.opMap l.attrs (s.fetch l) = .error e) := by
  have h := serving_fresh [0xF1#8] false
  exact ⟨⟨_, _, .nop_90, [], serving_fresh [0x90#8] false, by decide +kernel⟩,
    ⟨{ fresh [0xF1#8] false with opcodeTable := [(.one 0xF1#8, .desc (opcode "INT1" []))] }, _, .one 0xF1#8,
      opcode "INT1" [], .plain [], [], ⟨rfl, rfl, rfl, rfl, rfl, h.scanning⟩, by decide +kernel⟩,
    ⟨_, _, .truncated .opcode 0 [], serving_fresh [] false, by decide +kernel⟩⟩

theorem witness_runsEncodedInstruction : ∃ (s : State) (l : Latches) (i : Instr) (rest : List Byte),
    Serving s l ∧ DefaultTables s ∧
    i.wellFormed ⟨effectiveWidth l.req.is32 l.ps.opsz, effectiveWidth l.req.is32 l.ps.adsz⟩ = true ∧
    i.opMap = l.opMap ∧ s.fetch l = i.rowBytes ++ rest :=
  ⟨_, _, .jo_70 0xFE#8, [0x90#8], serving_fresh [0x70#8, 0xFE#8, 0x90#8] false, rfl, rfl, rfl, by decide⟩

theorem witness_decodeEncode : ∃ (a : Attrs) (i : Instr), i.wellFormed a = true ∧ i ≠ .escape0F :=
  ⟨w32, .mov_C7_0 ⟨0#2, 4#3, some ⟨3#2, 4#3, 5#3⟩, .f32 0#32⟩ (.f32 0xFFFFFFFF#32), by decide, nofun⟩

theorem witness_encodeDecode : ∃ (d : Decoded) (rest : List Byte),
    decodeRow defaultTable .twoByte w16 [0x06#8, 0x90#8] = .ok (d, rest) :=
  ⟨.row .clts_0F06, [0x90#8], by decide +kernel⟩

theorem witness_lengthParts : ∃ (s t : State) (l : Latches) (d : Decoded) (rest : List Byte)
    (ins : Instruction), Serving s l ∧
    decodeRow s.opcodeTable l.opMap l.attrs (s.fetch l) = .ok (d, rest) ∧ step s = .next t ∧
    t.response = some (.ok ins) ∧ ins.length = 2 :=
  ⟨_, after (escaped [0x0F#8, 0x06#8] false), _, .row .clts_0F06, [], _, serving_escaped [0x0F#8, 0x06#8] false,
    by decide +kernel, by rfl, by rfl, rfl⟩

theorem witness_cursorIncreases : ∃ (s t : State) (l l' : Latches), Serving s l ∧ step s = .next t ∧
    t.latches = some l' :=
  ⟨_, _, _, _, serving_fresh [0x66#8] false, by rfl, rfl⟩

theorem witness_nothingElseWritten :
    (∃ s t : State, s.initialized = true ∧ step s = .next t) ∧
    (∃ (s t : State) (l l' : Latches), s.initialized = true ∧ step s = .next t ∧ s.latches = some l ∧
      t.latches = some l') ∧
    (∃ (s t : State) (p : Response), s.initialized = true ∧ step s = .next t ∧ s.response = some p) :=
  ⟨⟨idle, idle, rfl, rfl⟩, ⟨fresh [0x66#8] false, _, _, _, rfl, by rfl, rfl, rfl⟩,
    { idle with response := some (.err ⟨.invalidOpcode, 0, 0, .opcode, [0xD6#8]⟩) }, _, _, rfl, rfl, rfl⟩

theorem witness_stepsFollowTheProcedure : ∃ (s : State) (r : Request), Inv s ∧ s.initialized = true ∧
    s.request = some r ∧ s.response = none ∧ s.latches = none := by
  refine ⟨idle.present (request [0x66#8, 0x90#8] true), _, ?_, rfl, rfl, rfl, rfl⟩
  exact {
    fresh := fun h => nomatch h
    tables := fun _ => ⟨rfl, rfl⟩
    view := fun r hr => by cases hr; decide
    inProgress := fun _ h => nomatch h
    scanning := fun _ h => nomatch h
    answered := fun _ h => nomatch h
    failed := fun _ h => nomatch h }

theorem witness_maxInstrLen : (request [0x90#8, 0x90#8] false).view.wf = true ∧
    ∃ ins : Instruction, decodeRequest ⟨defaultTable, some 1⟩ defaultTable RegisterTable.fixed
      (request [0x90#8, 0x90#8] false) = .ok ins :=
  ⟨by decide, _, by rfl⟩

/-- Two views that differ only before offset 1. -/
abbrev lateRequest (b : Byte) : Request := ⟨Memory.ofBytes [b, 0x90#8], 1, false⟩

/-- Both clauses: one offset with other bytes before it, and another offset. -/
theorem witness_responseDependsOnTheSuffix :
    (∃ r r' : Request, r ≠ r' ∧ r.view.wf = true ∧ r'.view.wf = true ∧ r.is32 = r'.is32 ∧ r.offset = r'.offset ∧
      ∀ n, r.view.byteAt (r.offset + n) = r'.view.byteAt (r'.offset + n)) ∧
    ∃ (r r' : Request) (ins : Instruction), r.offset ≠ r'.offset ∧ r.view.wf = true ∧ r'.view.wf = true ∧
      r.is32 = r'.is32 ∧ (∀ n, r.view.byteAt (r.offset + n) = r'.view.byteAt (r'.offset + n)) ∧
      decodeRequest ⟨defaultTable, none⟩ defaultTable RegisterTable.fixed r = .ok ins := by
  have hb : ∀ (b : Byte) (n : Nat), (Memory.ofBytes [b, 0x90#8]).byteAt (1 + n) = [0x90#8][n]? := fun b n => by
    rw [Memory.byteAt_ofBytes, Nat.add_comm]
    rfl
  refine ⟨⟨lateRequest 0#8, lateRequest 1#8, by decide, by decide, by decide, rfl, rfl, fun n => ?_⟩,
    lateRequest 0#8, request [0x90#8] false, _, by decide, by decide, by decide, rfl, fun n => ?_, by rfl⟩
  · exact (hb _ n).trans (hb _ n).symm
  · refine (hb _ n).trans ?_
    change _ = (Memory.ofBytes [0x90#8]).byteAt (0 + n)
    rw [Nat.zero_add, Memory.byteAt_ofBytes]

theorem witness_bytesAfterAreIrrelevant : ∃ (r r' : Request) (ins : Instruction), r.view ≠ r'.view ∧
    r.view.wf = true ∧ r'.view.wf = true ∧ r.offset = r'.offset ∧ r.is32 = r'.is32 ∧
    decodeRequest ⟨defaultTable, none⟩ defaultTable RegisterTable.fixed r = .ok ins ∧
    r.offset + ins.length ≤ viewLimit ⟨defaultTable, some 1⟩ r' ∧
    (∀ q, r.offset ≤ q → q < r.offset + ins.length → r.view.byteAt q = r'.view.byteAt q) := by
  refine ⟨request [0x90#8] false, request [0x90#8, 0xC3#8] false, _, by decide, by decide, by decide, rfl, rfl,
    by rfl, by decide, fun q _ h => ?_⟩
  have hq : q = 0 := by simp at h; exact h
  subst hq; rfl

end Witnesses

end Sys2Proof.Tests
end

section
/-!
PROOFS of the family 10_state.md. First what one step can do from any state (`Stepped`) and from a state that
serves a row (`Progress`); from these the invariant of the block, the cursor, the domains of an operand, and
the register table.
-/

namespace Sys2Proof.Machine

/-! ## One step, case by case -/

variable {s t : State} {l l' : Latches}

theorem step_initialise (hi : s.initialized = false) (hq : s.request = none) : step s = .next s.initialise := by
  simp [step, hi, hq]

theorem step_refuses (hi : s.initialized = false) {r : Request} (hq : s.request = some r) :
    step s = .refused .requestBeforeInit := by
  simp [step, hi, hq]

theorem step_send (hi : s.initialized = true) {p : Response} (hp : s.response = some p) :
    step s = .next s.send := by
  simp [step, hi, hp]

theorem step_idle (hi : s.initialized = true) (hp : s.response = none) (hl : s.latches = none)
    (hq : s.request = none) : step s = .next s := by
  simp [step, hi, hp, hl, hq]

theorem step_accept (hi : s.initialized = true) (hp : s.response = none) (hl : s.latches = none) {r : Request}
    (hq : s.request = some r) : step s = .next (s.accept r) := by
  simp [step, hi, hp, hl, hq]

section Serving

variable (hi : s.initialized = true) (hp : s.response = none) (hl : s.latches = some l)

include hi hp hl

theorem step_of_decode_error {e : DecodeError} (hd : s.decodeAt l = .error e) :
    step s = .next (s.decodeFailure l e) := by
  simp [step, hi, hp, hl, hd]

theorem step_of_decode_row {i : Instr} {rest : List Byte} (hd : s.decodeAt l = .ok (.row i, rest)) :
    step s = exec i s := by
  simp [step, hi, hp, hl, hd]

theorem step_of_decode_configured {k : Key} {d : OpcodeDescriptor} {f : Fields} {rest : List Byte}
    (hd : s.decodeAt l = .ok (.configured k d f, rest)) : step s = serveRow k d f s := by
  simp [step, hi, hp, hl, hd]

end Serving

/-- Every next state of a step: initialisation (R950), sending (R48), idling (R952), accepting (R954), or what
serving a row gives. -/
inductive Stepped (s : State) : State → Prop
  | ofInitialise (hi : s.initialized = false) (hq : s.request = none) : Stepped s s.initialise
  | ofSend (p : Response) (hi : s.initialized = true) (hp : s.response = some p) : Stepped s s.send
  | ofIdle (hi : s.initialized = true) (hp : s.response = none) (hl : s.latches = none) (hq : s.request = none) :
      Stepped s s
  | ofAccept (r : Request) (hi : s.initialized = true) (hp : s.response = none) (hl : s.latches = none)
      (hq : s.request = some r) : Stepped s (s.accept r)
  | ofServe (l : Latches) (t : State) (hi : s.initialized = true) (hp : s.response = none)
      (hl : s.latches = some l) : Stepped s t

theorem step_stepped (h : step s = .next t) : Stepped s t := by
  cases hi : s.initialized with
  | false =>
    cases hq : s.request with
    | some r => rw [step_refuses hi hq] at h; cases h
    | none => rw [step_initialise hi hq] at h; cases h; exact .ofInitialise hi hq
  | true =>
    cases hp : s.response with
    | some p => rw [step_send hi hp] at h; cases h; exact .ofSend p hi hp
    | none =>
      cases hl : s.latches with
      | some l => exact .ofServe l t hi hp hl
      | none =>
        cases hq : s.request with
        | none => rw [step_idle hi hp hl hq] at h; cases h; exact .ofIdle hi hp hl hq
        | some r => rw [step_accept hi hp hl hq] at h; cases h; exact .ofAccept r hi hp hl hq

/-- Settles O4: the send case and the idle case of a step. -/
theorem sendAndIdle : Obligations.SendAndIdle :=
  ⟨fun _ _ hi hp => step_send hi hp, fun _ hi hq hp hl => step_idle hi hp hl hq⟩

/-! ## Serving a row: on with the scan, failed, or answered -/

/-- The start offset is at or before the cursor (R45). -/
theorem Latches.Scanning.offset_le_cur (h : l.Scanning) : l.req.offset ≤ l.cur := by
  have hs := h.start
  cases ho : l.opcAt with
  | none => simpa [Latches.opcodeAt, ho] using hs
  | some o =>
    have hc := (h.escape o ho).1
    simp only [Latches.opcodeAt, ho, Option.getD_some] at hs
    omega

/-- A byte of R92 leaves the request in the scan (R140). -/
theorem Latches.Scanning.afterPrefix (h : l.Scanning) (ho : l.opcAt = none) (ps : PrefixState) :
    { l with ps := ps, cur := l.cur + 1 : Latches }.Scanning where
  key := h.key
  entry := h.entry
  desc := h.desc
  modrm := h.modrm
  mem := h.mem
  ops := h.ops
  start := by
    have := h.offset_le_cur
    simp only [Latches.opcodeAt, ho, Option.getD_none]
    omega
  scan := h.scan
  escape := fun o h' => by cases ho.symm.trans h'

/-- The escape ends the scan with the effective widths latched (R147, R148, R161). -/
theorem Latches.Scanning.afterEscape (h : l.Scanning) (ho : l.opcAt = none) :
    { l.endScan with cur := l.cur + 1 : Latches }.Scanning where
  key := h.key
  entry := h.entry
  desc := h.desc
  modrm := h.modrm
  mem := h.mem
  ops := h.ops
  start := h.start
  scan := nofun
  escape := fun o h' => by
    simp only [Latches.endScan_opcAt, Option.some.injEq, Latches.opcodeAt, ho, Option.getD_none] at h'
    subst h'
    simp [h.attrs]

@[simp] theorem Latches.answered_req (k : Key) (d : OpcodeDescriptor) (f : Fields) :
    (l.answered s k d f).req = l.req := rfl
@[simp] theorem Latches.answered_desc (k : Key) (d : OpcodeDescriptor) (f : Fields) :
    (l.answered s k d f).desc = some d := rfl
@[simp] theorem Latches.answered_cur (k : Key) (d : OpcodeDescriptor) (f : Fields) :
    (l.answered s k d f).cur = l.cur + 1 + f.size := rfl

/-- What becomes of a request when a row is served, as far as the invariant can tell: the scan goes on one byte
further, the request fails at or after its start, or it is answered with all bytes of the row consumed. -/
inductive Progress (s : State) (l : Latches) : State → Prop
  | ofScan (l' : Latches) (b : Byte) (rest : List Byte) (hf : s.fetch l = b :: rest) (hr : l'.req = l.req)
      (hc : l'.cur = l.cur + 1) (hs : l'.Scanning) : Progress s l { s with latches := some l' }
  | ofFailure (kind : FailKind) (p : Nat) (field : FailField) (bytes : List Byte) (hp : l.req.offset ≤ p) :
      Progress s l (failed s l kind p field bytes)
  | ofAnswer (k : Key) (d : OpcodeDescriptor) (f : Fields) (rest : List Byte)
      (hf : s.fetch l = k.last :: (f.bytes ++ rest)) : Progress s l { s with
        latches := some (l.answered s k d f)
        response := some (.ok ((l.answered s k d f).instruction d)) }

theorem Served.progress (h : Served s l t) (hs : l.Scanning) : Progress s l t := by
  have hc := hs.offset_le_cur
  cases h with
  | ofPrefix b rest ps ho hf hp => exact .ofScan _ b rest hf rfl rfl (hs.afterPrefix ho ps)
  | ofEscape rest ho hf => exact .ofScan _ _ rest hf rfl rfl (hs.afterEscape ho)
  | ofEmpty hf => exact .ofFailure _ _ _ _ hc
  | ofNoEntry k rest hk hn => exact .ofFailure _ _ _ _ hs.start
  | ofGroupCut k slots hk hg => exact .ofFailure _ _ _ _ (by omega)
  | ofEmptySlot k slots b rest hk hg hj => exact .ofFailure _ _ _ _ hs.start
  | ofUnsupported k slot d rest hk hd hx => exact .ofFailure _ _ _ _ hs.start
  | ofNoSegment k slot d b rest hk hd hx hm => exact .ofFailure _ _ _ _ hs.start
  | ofCut k slot d rest field p bytes hk hd hx hcut hr => exact .ofFailure _ _ _ _ (by omega)
  | ofRow k slot d f rest hk hd hx hm hw => exact .ofAnswer k d f rest (keyAt_fetch hk).1

theorem step_progress (hv : Serving s l) (h : step s = .next t) : Progress s l t := by
  obtain ⟨t', ht, hserved⟩ := step_served hv
  rw [ht] at h
  cases h
  exact hserved.progress hv.scanning

/-- Settles O43: a scanned byte moves the cursor by one, an answered row by its bytes, and a failure leaves no
cursor. -/
theorem cursorIncreases : Obligations.CursorIncreases := by
  intro s t l l' hv h hl
  cases step_progress hv h with
  | ofScan l₁ b rest hf hr hc hs => cases hl; omega
  | ofFailure kind p field bytes hp => cases hl
  | ofAnswer k d f rest hf => cases hl; rw [Latches.answered_cur]; omega

/-! ## The invariant -/

theorem Memory.length_bytesFrom {m : Memory} (hw : m.wf = true) (q : Nat) {lim : Nat} (hl : lim ≤ m.length) :
    (m.bytesFrom q lim).length = lim - q := by
  obtain ⟨bs, rfl⟩ : ∃ bs, m = Memory.ofBytes bs := ⟨_, Memory.eq_ofBytes hw⟩
  rw [Memory.length_ofBytes] at hl
  simp [Memory.bytesFrom_ofBytes, hl]

theorem State.length_fetch (hw : l.req.view.wf = true) :
    (s.fetch l).length = viewLimit s.params l.req - l.cur :=
  Memory.length_bytesFrom hw _ (viewLimit_le _ _)

theorem Inv.serving (h : Inv s) (hi : s.initialized = true) (hp : s.response = none) (hl : s.latches = some l) :
    Serving s l :=
  ⟨hi, (h.tables hi).2, (h.inProgress l hl).1, hp, hl, h.scanning l hl hp⟩

/-- No request at the port: none in progress, and no response (R48, R55). -/
theorem Inv.idle (h : Inv s) (hq : s.request = none) : s.latches = none ∧ s.response = none := by
  have hl : s.latches = none := Option.eq_none_iff_forall_ne_some.2 fun l hl => by
    cases hq.symm.trans (h.inProgress l hl).1
  refine ⟨hl, ?_⟩
  cases hp : s.response with
  | none => rfl
  | some p =>
    cases p with
    | ok ins =>
      obtain ⟨l, d, hl', -⟩ := h.answered ins hp
      cases hl.symm.trans hl'
    | err f =>
      obtain ⟨-, r, hr, -⟩ := h.failed f hp
      cases hq.symm.trans hr

/-- Between requests only the tables and the view at the port are left to check. -/
theorem Inv.of_no_request (hf : s.initialized = false → s.opcodeTable = [] ∧ s.registerTable = RegisterTable.empty)
    (ht : s.initialized = true → s.opcodeTable = s.params.opcodeTable ∧ s.registerTable = RegisterTable.fixed)
    (hv : ∀ r, s.request = some r → r.view.wf = true) (hp : s.response = none) (hl : s.latches = none) : Inv s where
  fresh hi := ⟨(hf hi).1, (hf hi).2, hp, hl⟩
  tables := ht
  view := hv
  inProgress l h := by cases hl.symm.trans h
  scanning l h := by cases hl.symm.trans h
  answered ins h := by cases hp.symm.trans h
  failed f h := by cases hp.symm.trans h

theorem Inv.initialise (h : Inv s) (hi : s.initialized = false) : Inv s.initialise := by
  obtain ⟨-, -, hp, hl⟩ := h.fresh hi
  exact .of_no_request nofun (fun _ => ⟨rfl, rfl⟩) h.view hp hl

theorem Inv.send (h : Inv s) (hi : s.initialized = true) : Inv s.send :=
  .of_no_request (fun hi' => by cases hi.symm.trans hi') h.tables nofun rfl rfl

theorem Inv.present (h : Inv s) (hq : s.request = none) {r : Request} (hw : r.view.wf = true) :
    Inv (s.present r) := by
  obtain ⟨hl, hp⟩ := h.idle hq
  refine .of_no_request (fun hi => ?_) h.tables (fun r' hr => ?_) hp hl
  · obtain ⟨ht, hr, -⟩ := h.fresh hi
    exact ⟨ht, hr⟩
  · cases hr
    exact hw

/-- The latches may move on within the request at the port, short of the view's limit. -/
theorem Inv.withLatches (h : Inv s) (hi : s.initialized = true) (hp : s.response = none)
    (hq : s.request = some l'.req) (hc : l'.cur ≤ max l'.req.offset (viewLimit s.params l'.req))
    (hs : l'.Scanning) : Inv { s with latches := some l' } where
  fresh hi' := by cases hi.symm.trans hi'
  tables := h.tables
  view := h.view
  inProgress l₁ h₁ := by cases h₁; exact ⟨hq, hc⟩
  scanning l₁ h₁ _ := by cases h₁; exact hs
  answered ins h₁ := by cases hp.symm.trans h₁
  failed f h₁ := by cases hp.symm.trans h₁

theorem Inv.accept (h : Inv s) (hi : s.initialized = true) (hp : s.response = none) {r : Request}
    (hq : s.request = some r) : Inv (s.accept r) := by
  refine h.withLatches hi hp hq (Nat.le_max_left ..) ?_
  exact ⟨rfl, rfl, rfl, rfl, rfl, rfl, Nat.le_refl _, fun _ => ⟨rfl, rfl⟩, nofun⟩

/-- A failure of the request at the port discards its latches (R904). -/
theorem Inv.fail (h : Inv s) (hi : s.initialized = true) (hq : s.request = some l.req) (kind : FailKind) {p : Nat}
    (field : FailField) (bytes : List Byte) (hp : l.req.offset ≤ p) :
    Inv (Machine.failed s l kind p field bytes) where
  fresh hi' := by cases hi.symm.trans hi'
  tables := h.tables
  view := h.view
  inProgress _ h₁ := nomatch h₁
  scanning _ h₁ := nomatch h₁
  answered _ h₁ := nomatch h₁
  failed f h₁ := by cases h₁; exact ⟨rfl, l.req, hq, rfl, hp⟩

/-- An Instruction at the port, its latches kept with the cursor at or after the start. -/
theorem Inv.answer (h : Inv s) (hi : s.initialized = true) (hq : s.request = some l'.req) {d : OpcodeDescriptor}
    (hd : l'.desc = some d) (ho : l'.req.offset ≤ l'.cur)
    (hc : l'.cur ≤ max l'.req.offset (viewLimit s.params l'.req)) :
    Inv { s with latches := some l', response := some (.ok (l'.instruction d)) } where
  fresh hi' := by cases hi.symm.trans hi'
  tables := h.tables
  view := h.view
  inProgress l₁ h₁ := by cases h₁; exact ⟨hq, hc⟩
  scanning _ _ h₁ := nomatch h₁
  answered ins h₁ := by cases h₁; exact ⟨l', d, rfl, hd, rfl, Nat.sub_add_cancel ho⟩
  failed _ h₁ := nomatch h₁

/-- Serving a row keeps the invariant: the bytes it consumes lie below the view's limit (R906). -/
theorem Inv.progress (h : Inv s) (hv : Serving s l) (hp : Progress s l t) : Inv t := by
  have hlen := State.length_fetch (s := s) (h.view _ hv.request)
  have hoff := hv.scanning.offset_le_cur
  cases hp with
  | ofScan l₁ b rest hf hr hc hs =>
    rw [hf, List.length_cons] at hlen
    refine h.withLatches hv.initialized hv.response (by rw [hr]; exact hv.request) ?_ hs
    rw [hr, hc]
    omega
  | ofFailure kind p field bytes hp => exact h.fail hv.initialized hv.request kind field bytes hp
  | ofAnswer k d f rest hf =>
    rw [hf, List.length_cons, List.length_append, Fields.length_bytes] at hlen
    refine h.answer (l' := l.answered s k d f) hv.initialized hv.request rfl ?_ ?_
    all_goals
      rw [Latches.answered_cur, Latches.answered_req]
      omega

/-- Settles O6: each case of a step keeps the invariant. -/
theorem invariantStep : Obligations.InvariantStep := by
  intro s t h hstep
  cases step_stepped hstep with
  | ofInitialise hi hq => exact h.initialise hi
  | ofSend p hi hp => exact h.send hi
  | ofIdle hi hp hl hq => exact h
  | ofAccept r hi hp hl hq => exact h.accept hi hp hq
  | ofServe l _ hi hp hl =>
    have hv := h.serving hi hp hl
    exact h.progress hv (step_progress hv hstep)

/-- Settles O7: an idle port has neither latches nor a response, so the next step accepts. -/
theorem invariantPresent : Obligations.InvariantPresent := by
  intro s r h hq hw
  obtain ⟨hl, hp⟩ := h.idle hq
  exact ⟨h.present hq hw, fun hi => step_accept (s := s.present r) hi hp hl rfl⟩

end Sys2Proof.Machine
end

section
/-!
PROOFS of the family 10_state.md, second part: the domains of an operand (R51) and the register table (R33, R34).
-/

namespace Sys2Proof

/-! ## Fields -/

theorem Field.size_mem (f : Field) : f.size ∈ [0, 1, 2, 4] := by
  simpa using f.size_cases

theorem Field.value_eq_zero {f : Field} (h : f.size = 0) : f.value = 0 := by
  have hlt := f.value_lt
  rw [h] at hlt
  omega

theorem Field.value_lt_pow (f : Field) : f.value < 256 ^ f.size := by
  have hlt := f.value_lt
  rwa [Nat.pow_mul] at hlt

end Sys2Proof

namespace Sys2Proof.Machine

variable {s t : State} {l : Latches}

/-! ## Where an Instruction comes from -/

theorem serveRow_instruction {k : Key} {d : OpcodeDescriptor} {f : Fields} {ins : Instruction}
    (h : serveRow k d f s = .next t) (ht : t.response = some (.ok ins)) :
    ∃ l, s.latches = some l ∧ ins = (l.answered s k d f).instruction d := by
  obtain ⟨l, hl, rfl⟩ := State.withRequest_eq_next h
  refine ⟨l, hl, ?_⟩
  unfold State.answer at ht
  split at ht
  · cases ht
  · split at ht
    · cases ht
    · cases ht
      rfl

/-- Of the rows of exec only an opcode row gives an Instruction. -/
theorem exec_instruction {i : Instr} {ins : Instruction} (h : exec i s = .next t) (hp : s.response = none)
    (ht : t.response = some (.ok ins)) : ∃ k d f, serveRow k d f s = .next t := by
  rcases exec_cases i with ⟨g, he⟩ | he | he | ⟨name, specs, he⟩ <;> rw [he] at h
  · obtain ⟨l, -, rfl⟩ := State.withRequest_eq_next h
    cases hp.symm.trans ht
  · obtain ⟨l, -, rfl⟩ := State.withRequest_eq_next h
    cases hp.symm.trans ht
  · obtain ⟨l, -, rfl⟩ := State.withRequest_eq_next h
    cases ht
  · exact ⟨_, _, _, h⟩

theorem State.decodeFailure_response (s : State) (l : Latches) (e : DecodeError) :
    ∃ f, (s.decodeFailure l e).response = some (.err f) := by
  cases e <;> exact ⟨_, rfl⟩

/-- An Instruction that a step gives comes from serving an opcode row, in any state. -/
theorem step_instruction {ins : Instruction} (h : step s = .next t) (hp : s.response = none)
    (ht : t.response = some (.ok ins)) : ∃ k d f, serveRow k d f s = .next t := by
  cases step_stepped h with
  | ofInitialise hi hq => cases hp.symm.trans ht
  | ofSend p hi hp' => cases ht
  | ofIdle hi _ hl hq => cases hp.symm.trans ht
  | ofAccept r hi _ hl hq => cases hp.symm.trans ht
  | ofServe l _ hi _ hl =>
    cases hd : s.decodeAt l with
    | error e =>
      rw [step_of_decode_error hi hp hl hd] at h
      cases h
      obtain ⟨f, hf⟩ := s.decodeFailure_response l e
      rw [hf] at ht
      cases ht
    | ok x =>
      obtain ⟨i | ⟨k, d, f⟩, rest⟩ := x
      · rw [step_of_decode_row hi hp hl hd] at h
        exact exec_instruction h hp ht
      · rw [step_of_decode_configured hi hp hl hd] at h
        exact ⟨k, d, f, h⟩

theorem mem_resolveAll {c : Ctx} {sps : List Spec} {fs : List Field} {op : OperandDescriptor}
    (h : op ∈ resolveAll c sps fs) : ∃ sp f, op = resolve c sp f := by
  induction sps generalizing fs with
  | nil => cases h
  | cons sp sps ih =>
    unfold resolveAll at h
    split at h
    all_goals
      rcases List.mem_cons.1 h with h | h
      · exact ⟨_, _, h⟩
      · exact ih h

theorem Latches.mem_ops_of_operand {d : OpcodeDescriptor} {op : OperandDescriptor}
    (h : op ∈ (l.instruction d).operands) : op ∈ l.ops := by
  simp only [Instruction.operands, List.mem_append, Option.mem_toList] at h
  rcases h with (h | h) | h <;> exact List.mem_of_getElem? h

/-! ## The domains of R51 -/

/-- The values an OperandDescriptor may hold (R51). -/
structure OperandDescriptor.InDomain (op : OperandDescriptor) : Prop where
  scale : op.scale ∈ [1, 2, 4, 8]
  displacementSize : op.displacementSize ∈ [0, 1, 2, 4]
  immedSize : op.immedSize ∈ [0, 1, 2, 4]
  displacement : op.displacementSize = 0 → op.displacement = 0
  immed : op.immedSize = 0 → op.immed = 0
  immed_lt : op.immed < 256 ^ op.immedSize

/-- The same of the memory part (R46). -/
structure MemoryOperand.InDomain (m : MemoryOperand) : Prop where
  scale : m.scale ∈ [1, 2, 4, 8]
  dsize : m.dsize ∈ [0, 1, 2, 4]
  disp : m.dsize = 0 → m.disp = 0

theorem baseOperand_inDomain (seg : SegReg) : (baseOperand seg).InDomain where
  scale := by simp [baseOperand]
  displacementSize := by simp [baseOperand]
  immedSize := by simp [baseOperand]
  displacement _ := rfl
  immed _ := rfl
  immed_lt := by simp [baseOperand]

variable (c : Ctx)

theorem registerOperand_inDomain (r : Option Reg) : (registerOperand c r).InDomain :=
  { baseOperand_inDomain (plainSegment c) with }

theorem stringOperand_inDomain (r : Reg) (seg : SegReg) : (stringOperand r seg).InDomain :=
  { baseOperand_inDomain seg with }

theorem immediateOperand_inDomain (f : Field) : (immediateOperand c f.value f.size).InDomain :=
  { baseOperand_inDomain (plainSegment c) with
    immedSize := f.size_mem
    immed := f.value_eq_zero
    immed_lt := f.value_lt_pow }

theorem offsetOperand_inDomain (f : Field) : (offsetOperand c f.value f.size).InDomain :=
  { baseOperand_inDomain (plainSegment c) with
    displacementSize := f.size_mem
    displacement := fun h => congrArg Nat.cast (f.value_eq_zero h) }

theorem memoryOperand_inDomain {m : MemoryOperand} (h : m.InDomain) : (memoryOperand c m).InDomain :=
  { baseOperand_inDomain (c.seg.getD (defaultSegment m.base)) with
    scale := h.scale
    displacementSize := h.dsize
    displacement := h.disp }

theorem sibScale_mem (sib : Sib) : sibScale sib ∈ [1, 2, 4, 8] := by
  have hss : ∀ ss : BitVec 2, 2 ^ ss.toNat ∈ [1, 2, 4, 8] := by decide
  unfold sibScale
  split
  · decide
  · exact hss sib.ss

theorem memoryPart_inDomain (regs : RegisterTable) (asz : Width) (m : ModRM) (sib : Option Sib) (f : Field) :
    (memoryPart regs asz m sib f.value f.size).InDomain := by
  have hpart : ∀ base index scale, scale ∈ [1, 2, 4, 8] →
      MemoryOperand.InDomain ⟨base, index, scale, dispValue f.value f.size, f.size⟩ := fun base index scale hs =>
    ⟨hs, f.size_mem, fun h => by simp only at h; simp [dispValue, h]⟩
  cases asz with
  | s16 =>
    change (memory16 ..).InDomain
    unfold memory16
    split <;> exact hpart _ _ 1 (by decide)
  | s32 =>
    cases sib with
    | some b => exact hpart _ _ _ (sibScale_mem b)
    | none =>
      change (memory32 ..).InDomain
      unfold memory32
      split <;> exact hpart _ _ 1 (by decide)

theorem memoryLatch_inDomain {regs : RegisterTable} {asz : Width} {d : OpcodeDescriptor} {f : Fields}
    {mo : MemoryOperand} (h : memoryLatch regs asz d f = some mo) : mo.InDomain := by
  unfold memoryLatch at h
  split at h
  · split at h
    · cases h
      exact memoryPart_inDomain ..
    · cases h
  · cases h

variable {c}

theorem rmOperand_inDomain (hm : ∀ mo, c.mem = some mo → mo.InDomain) (ty : OpType) :
    (rmOperand c ty).InDomain := by
  unfold rmOperand
  split
  · split
    · exact registerOperand_inDomain c _
    · split
      · exact memoryOperand_inDomain c (hm _ ‹_›)
      · exact baseOperand_inDomain _
  · exact baseOperand_inDomain _

/-- Every method of the resolver stays in the domains, where the memory part does. -/
theorem resolve_inDomain (hm : ∀ mo, c.mem = some mo → mo.InDomain) (sp : Spec) (f : Field) :
    (resolve c sp f).InDomain := by
  cases sp with
  | E ty => exact rmOperand_inDomain hm ty
  | M ty => cases ty <;> exact rmOperand_inDomain hm _
  | G | R | S | C | D | T | fixed | Z => exact registerOperand_inDomain c _
  | O => exact offsetOperand_inDomain c f
  | I | J => exact immediateOperand_inDomain c f
  | one => exact immediateOperand_inDomain c (.f8 1#8)
  | X | Y => exact stringOperand_inDomain _ _
  | fpu => exact baseOperand_inDomain _

theorem Latches.answered_ops_inDomain {k : Key} {d : OpcodeDescriptor} {f : Fields} {op : OperandDescriptor}
    (h : op ∈ (l.answered s k d f).ops) : op.InDomain := by
  obtain ⟨sp, fl, rfl⟩ := mem_resolveAll h
  exact resolve_inDomain (fun _ => memoryLatch_inDomain) sp fl

/-- Settles O35: an operand is a spec resolved by one method, each of which stays in the domains. -/
theorem operandDomains : Obligations.OperandDomains := by
  intro s t ins h hp ht op hop
  obtain ⟨k, d, f, hrow⟩ := step_instruction h hp ht
  obtain ⟨l, -, rfl⟩ := serveRow_instruction hrow ht
  have hd := Latches.answered_ops_inDomain (Latches.mem_ops_of_operand hop)
  exact ⟨hd.scale, hd.displacementSize, hd.immedSize, hd.displacement, hd.immed, hd.immed_lt⟩

/-! ## The register table -/

/-- Settles O25: each column read off, and the width of every entry. -/
theorem registerTableContents : Obligations.RegisterTableContents :=
  ⟨rfl, rfl, rfl, rfl, rfl, rfl, rfl, by decide, by decide, by decide, fun _ => rfl, by decide, rfl⟩

theorem mem_registers (r : Reg) : r ∈ RegisterTable.fixed.registers := by
  cases r with
  | seg r => cases r <;> decide
  | _ => decide

theorem nodup_registerNames : (RegisterTable.fixed.registers.map regName).Nodup := by
  decide

/-- Settles O26: no name stands twice in the table, and every register stands in it. -/
theorem registersEqualByName : Obligations.RegistersEqualByName :=
  ⟨fun a b => ⟨congrArg regName,
      List.inj_on_of_nodup_map nodup_registerNames (mem_registers a) (mem_registers b)⟩,
    mem_registers⟩

end Sys2Proof.Machine
end

section
/-!
PROOFS of the family 30_encoding.md. What the default table and the decoder have at one key, then both round
trips: each kind of row is read back from its bytes, and what is read are the bytes of a row (`RowEncodes`).
From them what a step does over the bytes of an instruction and over a byte of R92.
-/

namespace Sys2Proof

/-! ## Final descriptors of the default table -/

/-- A final descriptor is the table's at its key and slot. -/
theorem Final.descriptor? {t : OpcodeTable} {k : Key} {slot : Option (BitVec 3)} {d : OpcodeDescriptor}
    {rest : List Byte} (h : Final t k slot d rest) : t.descriptor? k slot = some d := by
  rcases h with ⟨rfl, hf⟩ | ⟨slots, b, more, rfl, -, hf, hd⟩
  · simp [OpcodeTable.descriptor?, hf]
  · simp only [OpcodeTable.descriptor?, hf]
    exact Option.join_eq_some_iff.2 hd

/-- A group row's fields begin with the ModRM byte whose reg field is the slot. -/
theorem SlotMatches.bytes {r : BitVec 3} {f : Fields} (h : SlotMatches (some r) f) :
    ∃ b more, f.bytes = b :: more ∧ b.extractLsb' 3 3 = r := by
  obtain ⟨m, hm, rfl⟩ := h r rfl
  obtain ⟨modrm, sib, disp, trailing⟩ := f
  cases hm
  exact ⟨m.toByte, _, rfl, congrArg ModRM.reg m.ofByte_toByte⟩

/-- The table's descriptor at a key and slot is final over the bytes of fields that carry the slot. -/
theorem final_of_descriptor {t : OpcodeTable} {k : Key} {slot : Option (BitVec 3)} {d : OpcodeDescriptor}
    {f : Fields} (h : t.descriptor? k slot = some d) (hs : SlotMatches slot f) (rest : List Byte) :
    Final t k slot d (f.bytes ++ rest) := by
  unfold OpcodeTable.descriptor? at h
  split at h
  · rename_i hf
    cases h
    exact .inl ⟨rfl, hf⟩
  · rename_i slots r hf
    obtain ⟨b, more, hb, rfl⟩ := hs.bytes
    exact .inr ⟨slots, b, more ++ rest, rfl, by rw [hb]; rfl, hf, Option.join_eq_some_iff.1 h⟩
  · cases h

/-- The default table has an Fpu spec only alone in a descriptor that is no group slot (R535). -/
theorem descriptor_fpu {k : Key} {slot : Option (BitVec 3)} {d : OpcodeDescriptor}
    (h : defaultTable.descriptor? k slot = some d) (hx : d.specs.any Spec.isFpu = true) :
    slot = none ∧ d.specs = [.fpu] := by
  have hall : ∀ e ∈ defaultTable, (match e.2 with
      | .desc d => !(d.specs.any Spec.isFpu) || d.specs == [.fpu]
      | .group _ => true) = true := by decide +kernel
  cases slot with
  | none =>
    refine ⟨rfl, ?_⟩
    unfold OpcodeTable.descriptor? at h
    split at h
    · rename_i hf _
      cases h
      simpa [hx] using hall _ (OpcodeTable.mem_of_find hf)
    · cases ‹none = some _›
    · cases h
  | some r =>
    rw [descriptor_group_noFpu h] at hx
    cases hx

/-- A descriptor with nothing but an Fpu spec reads no field (R165). -/
theorem fieldsFit_fpu {a : Attrs} {d : OpcodeDescriptor} {f : Fields} (hd : d.specs = [.fpu]) :
    FieldsFit a false d f ↔ f = .plain [] := by
  obtain ⟨modrm, sib, disp, trailing⟩ := f
  rw [fieldsFit_plain (by simp [needsModRM, hd, Spec.readsModRM])]
  have ht : trailingSizes a d.specs = [] := by rw [hd]; rfl
  simp [Fields.plain, ht]

/-! ## The bytes of the scanner and of the unassigned opcodes -/

/-- The row of a scanner byte is that byte alone. -/
theorem scannerRow_parts {b : Byte} {i : Instr} (h : scannerRow? b = some i) :
    i.parts = ⟨.one b, none, .plain []⟩ ∧ ∀ a, i.wellFormed a = true := by
  have hb := (scannerRow_cases h).1
  simp only [Machine.scannerBytes, List.mem_cons, List.not_mem_nil, or_false] at hb
  rcases hb with rfl | rfl | rfl | rfl | rfl | rfl | rfl | rfl | rfl | rfl | rfl | rfl
  all_goals
    cases h
    exact ⟨rfl, fun _ => rfl⟩

/-- The row of an unassigned key is that key alone. -/
theorem unassignedRow_parts {k : Key} {i : Instr} (h : unassignedRow? k = some i) :
    i.parts = ⟨k, none, .plain []⟩ ∧ ∀ a, i.wellFormed a = true := by
  cases k with
  | one b =>
    obtain ⟨hb, hi⟩ := Option.ite_none_right_eq_some.1 h
    cases hi
    exact ⟨rfl, fun _ => hb⟩
  | two b =>
    obtain ⟨hb, hi⟩ := Option.ite_none_right_eq_some.1 h
    cases hi
    exact ⟨rfl, fun _ => hb⟩

/-- The scanner takes no byte that the default table has an entry for (R167). -/
theorem opcode_of_descriptor {k : Key} {slot : Option (BitVec 3)} {d : OpcodeDescriptor}
    (h : defaultTable.descriptor? k slot = some d) : Opcode k := by
  have hall : ∀ e ∈ defaultTable, (match e.1 with
      | .one b => (scannerRow? b).isNone
      | .two _ => true) = true := by decide +kernel
  obtain ⟨e, he, -⟩ := mem_slotsOf h
  rintro b rfl
  exact Option.isNone_iff_eq_none.1 (hall _ he)

/-- The scanner takes no byte that is an unassigned opcode. -/
theorem opcode_of_unassignedRow {k : Key} {i : Instr} (h : unassignedRow? k = some i) : Opcode k := by
  have hall : ∀ b ∈ unassignedOne, b ∉ Machine.scannerBytes := by decide +kernel
  rintro b rfl
  obtain ⟨hb, -⟩ := Option.ite_none_right_eq_some.1 h
  exact scannerRow_none.2 (hall b (by simpa using hb))

/-! ## The decoder over a key -/

theorem decodeRow_scanner {t : OpcodeTable} {a : Attrs} {b : Byte} {i : Instr} (h : scannerRow? b = some i)
    (rest : List Byte) : decodeRow t .oneByte a (b :: rest) = .ok (.row i, rest) := by
  simp only [decodeRow, h]

theorem decodeRow_key {t : OpcodeTable} {a : Attrs} {k : Key} (h : Opcode k) (rest : List Byte) :
    decodeRow t k.opMap a (k.last :: rest) = decodeKey t a k rest := by
  cases k with
  | one b => simp only [decodeRow, Key.opMap, Key.last, h b rfl]
  | two b => rfl

theorem decodeKey_unassigned {t : OpcodeTable} {a : Attrs} {k : Key} {i : Instr} (hf : t.find k = none)
    (hi : unassignedRow? k = some i) (rest : List Byte) : decodeKey t a k rest = .ok (.row i, rest) := by
  simp only [decodeKey, hf, hi]

theorem decodeKey_final {t : OpcodeTable} {a : Attrs} {k : Key} {slot : Option (BitVec 3)}
    {d : OpcodeDescriptor} {rest : List Byte} (h : Final t k slot d rest) :
    decodeKey t a k rest = decodeDescriptor a k slot d rest := by
  rcases h with ⟨rfl, hf⟩ | ⟨slots, b, more, rfl, rfl, hf, hd⟩
  · simp only [decodeKey, hf]
  · have hj : slots[(b.extractLsb' 3 3).toNat]?.join = some d := Option.join_eq_some_iff.2 hd
    simp only [decodeKey, hf, ModRM.ofByte, hj]

/-- A descriptor of the default table is decoded from the bytes of fields of its shape, an Fpu spec included:
its shape is no field at all. -/
theorem decodeDescriptor_bytes {a : Attrs} {k : Key} {slot : Option (BitVec 3)} {d : OpcodeDescriptor}
    {f : Fields} (hd : defaultTable.descriptor? k slot = some d) (hw : FieldsFit a slot.isSome d f)
    (rest : List Byte) : decodeDescriptor a k slot d (f.bytes ++ rest) = .ok (nameRow k slot d f, rest) := by
  unfold decodeDescriptor
  split
  · rename_i hx
    obtain ⟨rfl, hsp⟩ := descriptor_fpu hd hx
    cases (fieldsFit_fpu hsp).1 hw
    rfl
  · simp only [readFields_bytes hw]

/-! ## Decoding what was encoded -/

theorem NamedScanner.decodeRow_rowBytes {i : Instr} (h : NamedScanner i) (a : Attrs) (rest : List Byte) :
    decodeRow defaultTable i.opMap a (i.rowBytes ++ rest) = .ok (.row i, rest) := by
  obtain ⟨b, hp, hi⟩ := h
  rw [Instr.opMap, Instr.rowBytes, hp]
  exact decodeRow_scanner hi rest

theorem NamedUnassigned.decodeRow_rowBytes {i : Instr} (h : NamedUnassigned i) {a : Attrs} (hw : i.wellFormed a = true)
    (rest : List Byte) : decodeRow defaultTable i.opMap a (i.rowBytes ++ rest) = .ok (.row i, rest) := by
  obtain ⟨k, hp, hk⟩ := h
  obtain ⟨hi, hf⟩ := hk a hw
  rw [Instr.opMap, Instr.rowBytes, hp]
  exact (decodeRow_key (opcode_of_unassignedRow hi) rest).trans (decodeKey_unassigned hf hi rest)

theorem NamedRow.decodeRow_rowBytes {i : Instr} (h : NamedRow i) {a : Attrs} (hw : i.wellFormed a = true)
    (rest : List Byte) : decodeRow defaultTable i.opMap a (i.rowBytes ++ rest) = .ok (.row i, rest) := by
  obtain ⟨d, hd, hs, hi, hfit⟩ := h
  calc decodeRow defaultTable i.opMap a (i.rowBytes ++ rest)
      = decodeKey defaultTable a i.parts.key (i.parts.fields.bytes ++ rest) :=
        decodeRow_key (opcode_of_descriptor hd) _
    _ = decodeDescriptor a i.parts.key i.parts.slot d (i.parts.fields.bytes ++ rest) :=
        decodeKey_final (final_of_descriptor hd hs rest)
    _ = .ok (nameRow i.parts.key i.parts.slot d i.parts.fields, rest) :=
        decodeDescriptor_bytes hd ((hfit a).2 hw) rest
    _ = .ok (.row i, rest) := by rw [nameRow, if_pos hd, hi]

/-- A well-formed instruction is decoded from its row bytes in its own map, whatever follows. -/
theorem decodeRow_rowBytes {a : Attrs} {i : Instr} (hw : i.wellFormed a = true) (rest : List Byte) :
    decodeRow defaultTable i.opMap a (i.rowBytes ++ rest) = .ok (.row i, rest) := by
  rcases named i with h | h | h
  · exact h.decodeRow_rowBytes a rest
  · exact h.decodeRow_rowBytes hw rest
  · exact h.decodeRow_rowBytes hw rest

/-- Only the escape row has the escape byte as its key. -/
theorem eq_escape_of_key {a : Attrs} {i : Instr} (hw : i.wellFormed a = true)
    (hk : i.parts.key = .one 0x0F#8) : i = .escape0F := by
  have hnot : ¬ Opcode (.one 0x0F#8) := fun h => nomatch h _ rfl
  rcases named i with ⟨b, hp, hi⟩ | ⟨k, hp, hu⟩ | ⟨d, hd, -⟩
  · rw [hp] at hk
    cases hk
    cases hi
    rfl
  · rw [hp] at hk
    cases hk
    exact absurd (opcode_of_unassignedRow (hu a hw).1) hnot
  · rw [hk] at hd
    exact absurd (opcode_of_descriptor hd) hnot

/-- The escape apart, a byte at the front is a byte of the one-byte map (R93). -/
theorem decode_of_ne_escape (a : Attrs) {b : Byte} (hb : b ≠ 0x0F#8) (bs : List Byte) :
    decode a (b :: bs) = decodeRow defaultTable .oneByte a (b :: bs) := by
  unfold decode
  split
  · rename_i h
    cases h
    exact absurd rfl hb
  · rfl

/-- The whole encoding is decoded in the row's own map from the row bytes. -/
theorem decode_encode_append {a : Attrs} {i : Instr} (hw : i.wellFormed a = true) (hi : i ≠ .escape0F)
    (rest : List Byte) :
    decode a (encode i ++ rest) = decodeRow defaultTable i.opMap a (i.rowBytes ++ rest) := by
  unfold encode Instr.opMap Instr.rowBytes
  cases hk : i.parts.key with
  | one b => exact decode_of_ne_escape a (fun hb => hi (eq_escape_of_key hw (hk.trans (by rw [hb])))) _
  | two b => rfl

/-- Settles O39: each of the three kinds of row is read back from its bytes. -/
theorem decodeEncode : Obligations.DecodeEncode :=
  ⟨fun _ _ rest hw => decodeRow_rowBytes hw rest,
    fun _ _ rest hw hi => (decode_encode_append hw hi rest).trans (decodeRow_rowBytes hw rest)⟩

/-- Bytes that are the encoding of a well-formed instruction decode to it. -/
theorem decode_of_encode_eq {a : Attrs} {i : Instr} {bs : List Byte} (hw : i.wellFormed a = true)
    (hi : i ≠ .escape0F) (he : encode i = bs) : decode a bs = .ok (.row i, []) := by
  have h := decodeEncode.2 a i [] hw hi
  rwa [List.append_nil, he] at h

/-- Settles O41: each word is the encoding of its instruction. -/
theorem decodedWords : Obligations.DecodedWords :=
  ⟨decode_of_encode_eq rfl nofun rfl, decode_of_encode_eq rfl nofun rfl, decode_of_encode_eq rfl nofun rfl,
    decode_of_encode_eq rfl nofun rfl, decode_of_encode_eq rfl nofun rfl, decode_of_encode_eq rfl nofun rfl⟩

/-! ## Encoding what was decoded -/

/-- A decoded row is a well-formed instruction with that key, slot and fields. -/
def RowEncodes (a : Attrs) (p : RowParts) (d : Decoded) : Prop :=
  ∃ i, d = .row i ∧ i.wellFormed a = true ∧ i.parts = p

/-- The row named from fields of a descriptor's shape has that key, slot and fields. -/
theorem nameRow_encodes {a : Attrs} {k : Key} {slot : Option (BitVec 3)} {d : OpcodeDescriptor} {f : Fields}
    (hd : defaultTable.descriptor? k slot = some d) (hs : SlotMatches slot f)
    (hf : FieldsFit a slot.isSome d f) : RowEncodes a ⟨k, slot, f⟩ (nameRow k slot d f) := by
  obtain ⟨i, hn, hw⟩ := nameRow_fits hd hs hf
  exact ⟨i, hn, hw, (nameRow_row hn hs).1⟩

/-- What the decoder accepts with the default table are the bytes of a row of the map. -/
theorem decodeRow_encodes {a : Attrs} {m : OpMap} {bs rest : List Byte} {d : Decoded}
    (h : decodeRow defaultTable m a bs = .ok (d, rest)) :
    ∃ p : RowParts, RowEncodes a p d ∧ p.key.opMap = m ∧ bs = p.key.last :: (p.fields.bytes ++ rest) := by
  have hread := decodeRow_read defaultTable m a bs
  rw [h] at hread
  cases hread with
  | scanner b i _ hm hi =>
    obtain ⟨hp, hw⟩ := scannerRow_parts hi
    exact ⟨_, ⟨i, rfl, hw a, hp⟩, hm.symm, rfl⟩
  | unassignedRow k i _ hm ho hf hi =>
    obtain ⟨hp, hw⟩ := unassignedRow_parts hi
    exact ⟨_, ⟨i, rfl, hw a, hp⟩, hm, rfl⟩
  | unsupported k slot d _ hm ho hf hx =>
    obtain ⟨rfl, hsp⟩ := descriptor_fpu hf.descriptor? hx
    have hfit : FieldsFit a false d (.plain []) := (fieldsFit_fpu hsp).2 rfl
    exact ⟨_, nameRow_encodes hf.descriptor? (slotMatches_none _) hfit, hm, rfl⟩
  | fields k slot d f _ hm ho hf hx hs hw =>
    exact ⟨_, nameRow_encodes hf.descriptor? hs hw, hm, rfl⟩

/-- Settles O40: the parts of the row read are those of the instruction. -/
theorem encodeDecode : Obligations.EncodeDecode := by
  intro a m bs rest d h
  obtain ⟨p, ⟨i, hd, hw, rfl⟩, hm, hb⟩ := decodeRow_encodes h
  exact ⟨i, hd, hw, hm, hb⟩

end Sys2Proof

namespace Sys2Proof.Machine

variable {s t : State} {l : Latches} {b : Byte} {rest : List Byte}

/-! ## A step over the bytes of an instruction -/

/-- Settles O38: the decoder reads the instruction at the cursor, at the widths in force. -/
theorem stepRunsEncodedInstruction : Obligations.StepRunsEncodedInstruction := by
  intro s l i rest hv ht hw hm hf
  refine step_of_decode_row (rest := rest) hv.initialized hv.response hv.latches ?_
  rw [State.decodeAt, ht, hv.scanning.attrs, ← hm, hf]
  exact decodeRow_rowBytes hw rest

/-! ## A step over a byte of R92, and over any other -/

/-- A byte of R92 is consumed with its write (R140). -/
theorem step_of_applyPrefix (hv : Serving s l) (ho : l.opcAt = none) (hf : s.fetch l = b :: rest) {ps : PrefixState}
    (hp : applyPrefix b l.ps = some ps) :
    step s = .next { s with latches := some { l with ps := ps, cur := l.cur + 1 } } := by
  have hrow : scannerRow? b ≠ none := fun hn => by
    rw [applyPrefix_none (scannerRow_none.1 hn)] at hp
    cases hp
  obtain ⟨i, hi⟩ := Option.ne_none_iff_exists'.1 hrow
  have hd : s.decodeAt l = .ok (.row i, rest) := by
    rw [State.decodeAt, Latches.opMap_one.2 ho, hf]
    exact decodeRow_scanner hi rest
  rw [step_of_decode_row hv.initialized hv.response hv.latches hd]
  obtain ⟨-, ⟨g, hg, he⟩ | ⟨-, hn, -⟩⟩ := scannerRow_cases hi
  · rw [hg] at hp
    cases hp
    exact (he s).trans (servePrefix_next hv.latches g)
  · rw [hn] at hp
    cases hp

@[simp] theorem failed_latches (kind : FailKind) (p : Nat) (field : FailField) (bytes : List Byte) :
    (failed s l kind p field bytes).latches = none := rfl

@[simp] theorem failed_response (kind : FailKind) (p : Nat) (field : FailField) (bytes : List Byte) :
    (failed s l kind p field bytes).response = some (.err ⟨kind, l.req.offset, p, field, bytes⟩) := rfl

/-- A byte without a write leaves `ps` alone, in the latches and in an Instruction (R149). -/
theorem Served.ps_eq (h : Served s l t) (hp : s.response = none) (hf : s.fetch l = b :: rest)
    (hb : applyPrefix b l.ps = none) :
    (∀ l', t.latches = some l' → l'.ps = l.ps) ∧
      ∀ ins : Instruction, t.response = some (.ok ins) →
        ins.segmentOverride = l.ps.seg ∧ ins.lock = l.ps.lock ∧ ins.rep = l.ps.rep := by
  cases h with
  | ofPrefix b' rest' ps ho hf' hp' =>
    rw [hf'] at hf
    cases hf
    rw [hb] at hp'
    cases hp'
  | ofEscape =>
    refine ⟨fun l' hl => ?_, fun ins hi => ?_⟩
    · cases hl
      rfl
    · cases hp.symm.trans hi
  | ofRow =>
    refine ⟨fun l' hl => ?_, fun ins hi => ?_⟩
    · cases hl
      rfl
    · cases hi
      exact ⟨rfl, rfl, rfl⟩
  | ofEmpty | ofNoEntry | ofGroupCut | ofEmptySlot | ofUnsupported | ofNoSegment | ofCut =>
    simp

/-- The escape apart, the bytes of the scanner are all that have a write (R92). -/
theorem applyPrefix_eq_none (hb : b ∉ scannerBytes.dropLast) (ps : PrefixState) : applyPrefix b ps = none := by
  have hsplit : scannerBytes = scannerBytes.dropLast ++ [0x0F#8] := rfl
  by_cases hm : b ∈ scannerBytes
  · rw [hsplit, List.mem_append, List.mem_singleton] at hm
    rw [hm.resolve_left hb]
    rfl
  · exact applyPrefix_none hm ps

/-- Settles O9: eleven writes of one lemma, and a byte without a write keeps `ps`. -/
theorem prefixBytes : Obligations.PrefixBytes := by
  intro s l b rest hv ho hf
  have hwrite : ∀ (c : Byte) (ps : PrefixState), applyPrefix c l.ps = some ps → b = c →
      step s = .next { s with latches := some { l with ps := ps, cur := l.cur + 1 } } := by
    rintro c ps hp rfl
    exact step_of_applyPrefix hv ho hf hp
  refine ⟨hwrite _ _ rfl, hwrite _ _ rfl, hwrite _ _ rfl, hwrite _ _ rfl, hwrite _ _ rfl, hwrite _ _ rfl,
    hwrite _ _ rfl, hwrite _ _ rfl, hwrite _ _ rfl, hwrite _ _ rfl, hwrite _ _ rfl, fun hb t ht => ?_⟩
  obtain ⟨t', ht', hserved⟩ := step_served hv
  cases ht.symm.trans ht'
  exact hserved.ps_eq hv.response hf (applyPrefix_eq_none hb l.ps)

end Sys2Proof.Machine
end

section
/-!
PROOFS of the family 40_prefix_scanner.md. What one prefix row writes (`prefixEffect`) and a list of them
(`runEffect`); what a scanned byte adds to the bytes read so far (`scanned`); the widths at the end of the scan.
-/

namespace Sys2Proof.Machine

variable {s t : State} {l l' : Latches}

/-! ## Prefix rows and runs of them -/

/-- Settles O8: each row serves its own write. -/
theorem prefixRows : Obligations.PrefixRows := fun _ _ h =>
  ⟨servePrefix_next h _, servePrefix_next h _, servePrefix_next h _, servePrefix_next h _,
    servePrefix_next h _, servePrefix_next h _, servePrefix_next h _, servePrefix_next h _,
    servePrefix_next h _, servePrefix_next h _, servePrefix_next h _⟩

/-- What the prefix rows write, in one formula over the row (R142 to R146). -/
def prefixEffect (i : Instr) (ps : PrefixState) : PrefixState :=
  ⟨(prefixSegment i).or ps.seg, ps.opsz || (.prefixOPSIZE == i), ps.adsz || (.prefixADDRSIZE == i),
    ps.lock || (.prefixLOCK == i), (prefixRep i).or ps.rep⟩

/-- What a run of prefix rows writes: the last override and the last repeat prefix, and the flags of the rows
that occur (R150). -/
def runEffect (run : List Instr) (ps : PrefixState) : PrefixState :=
  ⟨(run.filterMap prefixSegment).getLast?.or ps.seg, ps.opsz || run.contains .prefixOPSIZE,
    ps.adsz || run.contains .prefixADDRSIZE, ps.lock || run.contains .prefixLOCK,
    (run.filterMap prefixRep).getLast?.or ps.rep⟩

/-- A prefix row serves the write of its formula. -/
theorem exec_of_isPrefixRow {i : Instr} (hi : isPrefixRow i = true) (s : State) :
    exec i s = servePrefix (prefixEffect i) s := by
  have heffect : ∀ i ∈ ([.prefixES, .prefixCS, .prefixSS, .prefixDS, .prefixFS, .prefixGS, .prefixOPSIZE,
      .prefixADDRSIZE, .prefixLOCK, .prefixREPNE, .prefixREP] : List Instr),
      ∃ g, exec i s = servePrefix g s ∧ ∀ ps, g ps = prefixEffect i ps := by
    simp only [List.forall_mem_cons, List.not_mem_nil, false_implies, implies_true, and_true]
    repeat' apply And.intro
    all_goals exact ⟨_, rfl, by rintro ⟨_, _ | _, _ | _, _ | _, _⟩ <;> rfl⟩
  obtain ⟨g, he, hg⟩ := heffect i (List.contains_iff_mem.1 hi)
  rw [he, funext hg]

/-- The head's value is the last one only where the tail has none; the default comes after both. -/
theorem getLast?_filterMap_cons_or {α β : Type} (f : α → Option β) (a : α) (as : List α) (o : Option β) :
    ((a :: as).filterMap f).getLast?.or o = (as.filterMap f).getLast?.or ((f a).or o) := by
  cases h : f a with
  | none => simp [h]
  | some b => simp [h, List.getLast?_cons]

theorem runEffect_nil (ps : PrefixState) : runEffect [] ps = ps := by
  simp [runEffect]

/-- The first row of a run writes first. -/
theorem runEffect_cons (i : Instr) (run : List Instr) (ps : PrefixState) :
    runEffect (i :: run) ps = runEffect run (prefixEffect i ps) := by
  simp only [runEffect, prefixEffect, getLast?_filterMap_cons_or, List.contains_cons, Bool.or_assoc]

/-- Settles O10, by induction on the run. -/
theorem prefixRunEffect : Obligations.PrefixRunEffect := by
  intro run s l hrun hl
  change execAll run s = .next { s with
    latches := some { l with ps := runEffect run l.ps, cur := l.cur + run.length } }
  induction run generalizing s l with
  | nil => simp [execAll, runEffect_nil, ← hl]
  | cons i run ih =>
    obtain ⟨hi, hrest⟩ := List.forall_mem_cons.1 hrun
    have hstep := (exec_of_isPrefixRow hi s).trans (servePrefix_next hl _)
    simp only [execAll, hstep]
    rw [ih _ _ hrest rfl, runEffect_cons, List.length_cons, Nat.add_assoc, Nat.add_comm 1]

/-! ## The bytes scanned so far -/

/-- A run in two parts: the second goes on from what the first leaves. -/
theorem prefixRun_append (bs cs : List Byte) (ps : PrefixState) :
    prefixRun (bs ++ cs) ps = (prefixRun bs ps).bind (prefixRun cs) := by
  induction bs generalizing ps with
  | nil => rfl
  | cons b bs ih => simp only [List.cons_append, prefixRun, Option.bind_assoc, ih]

/-- One more prefix byte after a run. -/
theorem prefixRun_concat {bs : List Byte} {b : Byte} {ps ps' ps'' : PrefixState} (h : prefixRun bs ps = some ps')
    (hb : applyPrefix b ps' = some ps'') : prefixRun (bs ++ [b]) ps = some ps'' := by
  simp [prefixRun_append, h, prefixRun, hb]

/-- The run of bytes up to `q + 1` ends with the byte that a read at `q` gives first. -/
theorem Memory.bytesFrom_succ {m : Memory} (hw : m.wf = true) {p q lim : Nat} {b : Byte} {rest : List Byte}
    (hp : p ≤ q) (hf : m.bytesFrom q lim = b :: rest) :
    m.bytesFrom p (q + 1) = m.bytesFrom p q ++ [b] := by
  obtain ⟨bs, rfl⟩ : ∃ bs, m = Memory.ofBytes bs := ⟨_, Memory.eq_ofBytes hw⟩
  simp only [Memory.bytesFrom_ofBytes] at hf ⊢
  have hget : (bs.take lim)[q]? = some b := by rw [← List.head?_drop, hf]; rfl
  have hb : bs[q]? = some b := by
    rw [List.getElem?_take] at hget
    exact (Option.ite_none_right_eq_some.1 hget).2
  have hq : q < bs.length := (List.getElem?_eq_some_iff.1 hb).1
  calc ((bs.take (q + 1)).drop p)
      = (bs.take q ++ [b]).drop p := by rw [List.take_add_one, hb, Option.toList_some]
    _ = (bs.take q).drop p ++ [b] := List.drop_append_of_le_length (by simp; omega)

/-- The bytes from the start offset to the first opcode byte, or to the cursor before that is known. -/
def Latches.scanned (l : Latches) : List Byte := l.req.view.bytesFrom l.req.offset l.opcodeAt

/-- A prefix byte consumed is one more byte scanned. -/
theorem Latches.scanned_afterPrefix (hs : l.Scanning) (hw : l.req.view.wf = true) (ho : l.opcAt = none) {b : Byte}
    {rest : List Byte} (hf : s.fetch l = b :: rest) (ps : PrefixState) :
    { l with ps := ps, cur := l.cur + 1 : Latches }.scanned = l.scanned ++ [b] := by
  simpa [Latches.scanned, Latches.opcodeAt, ho] using Memory.bytesFrom_succ hw hs.offset_le_cur hf

/-- The prefix state is what the bytes scanned so far leave (R140, R149). -/
def Latches.ScanRead (l : Latches) : Prop := prefixRun l.scanned PrefixState.start = some l.ps

/-- Serving a row that goes on scanning keeps it: a prefix byte joins the run with its write, and the escape
changes neither side. -/
theorem Served.scanRead (h : Served s l t) (hs : l.Scanning)
    (hw : l.req.view.wf = true) (hr : l.ScanRead) (hl : t.latches = some l') (ht : t.response = none) :
    l'.ScanRead := by
  cases h with
  | ofPrefix b rest ps ho hf hb =>
    cases hl
    rw [Latches.ScanRead, Latches.scanned_afterPrefix hs hw ho hf]
    exact prefixRun_concat hr hb
  | ofEscape rest ho hf =>
    cases hl
    exact hr
  | ofRow => cases ht
  | ofEmpty | ofNoEntry | ofGroupCut | ofEmptySlot | ofUnsupported | ofNoSegment | ofCut => cases hl

/-- Settles O11: no byte is scanned at the start, and each step keeps `Latches.ScanRead`. -/
theorem prefixStateIsWhatWasRead : Obligations.PrefixStateIsWhatWasRead := by
  refine ⟨fun r => by rw [Memory.bytesFrom_nil _ (Nat.le_refl _)]; rfl, fun s t l l' hi hv h hl ht hr => ?_⟩
  obtain ⟨t', ht', hserved⟩ := step_served hv
  cases h.symm.trans ht'
  exact hserved.scanRead hv.scanning (hi.view _ hv.request) hr hl ht

/-! ## The end of the scan -/

/-- The effective width as R147 and R148 word it. -/
theorem effectiveWidth_eq_ite (is32 toggled : Bool) :
    effectiveWidth is32 toggled = if is32 ≠ toggled then .s32 else .s16 := by
  cases is32 <;> cases toggled <;> rfl

/-- Settles O12: the scan ends at the cursor with the effective widths. -/
theorem escapeRow : Obligations.EscapeRow := by
  intro s l hv ho
  have hat : l.opcodeAt = l.cur := by simp [Latches.opcodeAt, ho]
  refine (serveEscape_next hv.latches).trans ?_
  simp only [Latches.endScan, hv.scanning.attrs, hat, effectiveWidth_eq_ite]

@[simp] theorem Latches.answered_ps (k : Key) (d : OpcodeDescriptor) (f : Fields) :
    (l.answered s k d f).ps = l.ps := rfl
@[simp] theorem Latches.answered_osz (k : Key) (d : OpcodeDescriptor) (f : Fields) :
    (l.answered s k d f).osz = some l.attrs.osz := rfl
@[simp] theorem Latches.answered_asz (k : Key) (d : OpcodeDescriptor) (f : Fields) :
    (l.answered s k d f).asz = some l.attrs.asz := rfl
@[simp] theorem Latches.answered_attrs (k : Key) (d : OpcodeDescriptor) (f : Fields) :
    (l.answered s k d f).attrs = l.attrs := rfl

/-- Settles O13: only an opcode row is answered with an Instruction, at the widths in force, which are the
effective ones. -/
theorem attributesReported : Obligations.AttributesReported := by
  intro s t l ins hv h ht
  have ha := hv.scanning.attrs
  cases step_progress hv h with
  | ofScan => cases hv.response.symm.trans ht
  | ofFailure => cases ht
  | ofAnswer k d f rest hf =>
    cases ht
    refine ⟨?_, ?_, rfl, rfl, rfl, _, rfl, ?_, ?_⟩
    · simp [Latches.instruction, ha]
    · simp [Latches.instruction, ha]
    · simp only [Latches.answered_osz, ha, effectiveWidth_eq_ite]
    · simp only [Latches.answered_asz, ha, effectiveWidth_eq_ite]

/-! ## No byte at the cursor -/

/-- Settles O23: the decoder reads no opcode byte, and after the escape the cursor is where `Latches.Scanning`
has it. -/
theorem emptyFetchTruncates : Obligations.EmptyFetchTruncates := by
  intro s l hv hf
  refine ⟨?_, fun o ho => (hv.scanning.escape o ho).1⟩
  have hd : s.decodeAt l = .error (.truncated .opcode 0 []) := by rw [State.decodeAt, hf]; rfl
  exact step_of_decode_error hv.initialized hv.response hv.latches hd

end Sys2Proof.Machine
end

section
/-!
PROOFS of the family 41_opcode_table.md. What the decoder answers at a key, case by case of its entry, and that
a final descriptor is served as its own row whatever its table (`NamesRow`).
-/

namespace Sys2Proof

/-! ## A final descriptor and the row it names -/

/-- Fields read after a group's key carry the slot that selected the descriptor. -/
theorem Final.slotMatches {t : OpcodeTable} {a : Attrs} {k : Key} {slot : Option (BitVec 3)}
    {d : OpcodeDescriptor} {f : Fields} {rest : List Byte} (h : Final t k slot d (f.bytes ++ rest))
    (hw : FieldsFit a slot.isSome d f) : SlotMatches slot f := by
  rcases h with ⟨rfl, -⟩ | ⟨slots, b, more, rfl, hb, -⟩
  · exact slotMatches_none f
  · have hblock := hw.block
    simp only [needsModRM, Option.isSome_some, Bool.true_or, if_true] at hblock
    obtain ⟨m, hm, -⟩ := hblock
    have hmb : m.toByte = b := by
      rw [Fields.bytes, hm] at hb
      exact List.head_eq_of_cons_eq hb
    rintro _ ⟨⟩
    rw [← hmb]
    exact ⟨m, hm, (congrArg ModRM.reg m.ofByte_toByte).symm⟩

/-- A decoded row is the row at key `k` and `slot`, with descriptor `d` and fields `f`: a row of the default
table whose meaning is that row served, or a row only the configured table has. -/
inductive NamesRow (k : Key) (slot : Option (BitVec 3)) (d : OpcodeDescriptor) (f : Fields) : Decoded → Prop
  | row (i : Instr) (hp : i.parts = ⟨k, slot, f⟩) (hd : defaultTable.descriptor? k slot = some d)
      (he : ∀ s, Machine.exec i s = Machine.serveRow k d f s) : NamesRow k slot d f (.row i)
  | configured : NamesRow k slot d f (.configured k d f)

theorem nameRow_namesRow {k : Key} {slot : Option (BitVec 3)} {d : OpcodeDescriptor} {f : Fields}
    (hs : ∀ i, nameRow k slot d f = .row i → SlotMatches slot f) : NamesRow k slot d f (nameRow k slot d f) := by
  cases hn : nameRow k slot d f with
  | row i =>
    obtain ⟨hp, hd, he⟩ := nameRow_row hn (hs i hn)
    exact .row i hp hd he
  | configured k' d' f' =>
    obtain ⟨rfl, rfl, rfl⟩ := nameRow_configured hn
    exact .configured

/-- What is decoded of a final descriptor is its own row. An Fpu spec reads no ModRM byte, but no group of the
default table has one, so there too no row of another slot is named. -/
theorem Final.namesRow {t : OpcodeTable} {a : Attrs} {k : Key} {slot : Option (BitVec 3)} {d : OpcodeDescriptor}
    {rest r : List Byte} {x : Decoded} (hf : Final t k slot d rest)
    (h : decodeDescriptor a k slot d rest = .ok (x, r)) : ∃ f, NamesRow k slot d f x := by
  unfold decodeDescriptor at h
  split at h
  · rename_i hx
    cases h
    refine ⟨.plain [], nameRow_namesRow fun i hn => ?_⟩
    obtain ⟨rfl, -⟩ := descriptor_fpu (nameRow_row_descriptor hn) hx
    exact slotMatches_none _
  · split at h
    · rename_i f rest' hr
      cases h
      obtain ⟨hw, rfl⟩ := readFields_ok hr
      exact ⟨f, nameRow_namesRow fun _ _ => hf.slotMatches hw⟩
    · cases h

theorem NamesRow.key {k : Key} {slot : Option (BitVec 3)} {d : OpcodeDescriptor} {f : Fields} {x : Decoded}
    (h : NamesRow k slot d f x) : x.keyFields.1 = k := by
  cases h with
  | row i hp => exact congrArg RowParts.key hp
  | configured => rfl

theorem NamesRow.descriptor {k : Key} {slot : Option (BitVec 3)} {d : OpcodeDescriptor} {f : Fields} {x : Decoded}
    (h : NamesRow k slot d f x) : x.descriptor = some d := by
  cases h with
  | row i hp hd => rw [Decoded.descriptor, hp, hd]
  | configured => rfl

/-! ## Lookup at any widths -/

/-- Settles O20: a row without a descriptor is the same at any widths, and a final descriptor, which the bytes
select, gives its own key and itself. -/
theorem keyIndependentOfWidths : Obligations.KeyIndependentOfWidths := by
  intro t m a a' bs r r' d d' h h'
  have hread := decodeRow_read t m a bs
  rw [h] at hread
  cases hread with
  | scanner b i _ hm hi =>
    subst hm
    cases (decodeRow_scanner hi r).symm.trans h'
    exact ⟨rfl, rfl⟩
  | unassignedRow k i _ hm ho hf hi =>
    subst hm
    cases ((decodeRow_key ho r).trans (decodeKey_unassigned hf hi r)).symm.trans h'
    exact ⟨rfl, rfl⟩
  | unsupported k _ _ _ hm ho hf | fields k _ _ _ _ hm ho hf =>
    subst hm
    rw [decodeRow_key ho, decodeKey_final hf] at h h'
    obtain ⟨f, hn⟩ := hf.namesRow h
    obtain ⟨f', hn'⟩ := hf.namesRow h'
    exact ⟨hn.key.trans hn'.key.symm, hn.descriptor.trans hn'.descriptor.symm⟩

/-! ## The default table -/

/-- The place of a key in the order of the table: the one-byte map, then the two-byte map. -/
def Key.rank : Key → Nat
  | .one b => b.toNat
  | .two b => 256 + b.toNat

/-- The default table stands in key order, so no key occurs twice. -/
theorem nodup_defaultTable_keys : (defaultTable.map Prod.fst).Nodup := by
  have hsorted : (defaultTable.map fun e => e.1.rank).IsChain (· < ·) := by decide +kernel
  refine List.Nodup.of_map Key.rank ?_
  rw [List.map_map]
  exact hsorted.pairwise.imp Nat.ne_of_lt

theorem defaultTable_wellFormed : defaultTable.wellFormed = true := by
  have hentries : ∀ e ∈ defaultTable, (e.1.wellFormed && e.2.wellFormed) = true := by decide +kernel
  rw [OpcodeTable.wellFormed, Bool.and_eq_true, List.all_eq_true, decide_eq_true_iff]
  exact ⟨hentries, nodup_defaultTable_keys⟩

/-- Settles O18: the conditions of R168 entry by entry, and the groups read off the table. -/
theorem defaultTableGroups : Obligations.DefaultTableGroups :=
  ⟨defaultTable_wellFormed, by decide +kernel⟩

end Sys2Proof

namespace Sys2Proof.Machine

variable {s t : State} {l : Latches} {k : Key} {rest : List Byte}

/-! ## A step at a key -/

/-- At a key the decoder looks it up, with the bytes after it (R161). -/
theorem KeyAt.decodeAt (h : KeyAt s l k rest) : s.decodeAt l = decodeKey s.opcodeTable l.attrs k rest := by
  cases k with
  | one b =>
    obtain ⟨ho, hb, hf⟩ := h
    have hop : Opcode (.one b) := fun _ he => by cases he; exact scannerRow_none.2 hb
    rw [State.decodeAt, Latches.opMap_one.2 ho, hf]
    exact decodeRow_key hop rest
  | two b =>
    obtain ⟨ho, hf⟩ := h
    rw [State.decodeAt, Latches.opMap, if_pos ho, hf]
    rfl

theorem exec_of_unassignedRow {i : Instr} (h : unassignedRow? k = some i) (s : State) :
    exec i s = serveUnassigned k s := by
  cases k with
  | one b =>
    obtain ⟨-, hi⟩ := Option.ite_none_right_eq_some.1 h
    cases hi
    rfl
  | two b =>
    obtain ⟨-, hi⟩ := Option.ite_none_right_eq_some.1 h
    cases hi
    rfl

/-- Settles O14: a key the default table leaves unassigned has a row of its own, and any other is a decode
error; both fail alike. -/
theorem noEntryFails : Obligations.NoEntryFails := by
  intro s l k rest hv hk hf
  cases hi : unassignedRow? k with
  | some i =>
    have hd := hk.decodeAt.trans (decodeKey_unassigned hf hi rest)
    calc step s = exec i s := step_of_decode_row hv.initialized hv.response hv.latches hd
      _ = serveUnassigned k s := exec_of_unassignedRow hi s
      _ = _ := serveUnassigned_next hv.latches k
  | none =>
    have hd : s.decodeAt l = .error (.unassigned k) := by rw [hk.decodeAt, decodeKey, hf, hi]
    exact step_of_decode_error hv.initialized hv.response hv.latches hd

/-- At a final descriptor the decoder reads its row. -/
theorem decodeAt_of_final {slot : Option (BitVec 3)} {d : OpcodeDescriptor} (hk : KeyAt s l k rest)
    (hf : Final s.opcodeTable k slot d rest) : s.decodeAt l = decodeDescriptor l.attrs k slot d rest :=
  hk.decodeAt.trans (decodeKey_final hf)

/-- A row that is named is served with its own descriptor, whichever table has it. -/
theorem step_of_namesRow (hv : Serving s l) {slot : Option (BitVec 3)} {d : OpcodeDescriptor} {f : Fields}
    {x : Decoded} {r : List Byte} (hd : s.decodeAt l = .ok (x, r)) (hn : NamesRow k slot d f x) :
    step s = serveRow k d f s := by
  cases hn with
  | row i _ _ he => exact (step_of_decode_row hv.initialized hv.response hv.latches hd).trans (he s)
  | configured => exact step_of_decode_configured hv.initialized hv.response hv.latches hd

/-- Settles O19: an Fpu descriptor is decoded without reading its fields, and its row is unsupported. -/
theorem unsupportedFirst : Obligations.UnsupportedFirst := by
  intro s l k rest d hv hk hfd hx
  obtain ⟨slot, hf⟩ := final_iff.1 hfd
  have hany : d.specs.any Spec.isFpu = true := List.any_eq_true.2 ⟨_, hx, rfl⟩
  have hdd : decodeDescriptor l.attrs k slot d rest = .ok (nameRow k slot d (.plain []), rest) := if_pos hany
  obtain ⟨f, hn⟩ := hf.namesRow hdd
  exact (step_of_namesRow hv ((decodeAt_of_final hk hf).trans hdd) hn).trans (serveRow_fpu hv.latches k d f hany)

/-- An Instruction given at a final descriptor carries that descriptor. -/
theorem instruction_of_final (hv : Serving s l) (hk : KeyAt s l k rest) {slot : Option (BitVec 3)}
    {d : OpcodeDescriptor} (hf : Final s.opcodeTable k slot d rest) (h : step s = .next t) {ins : Instruction}
    (ht : t.response = some (.ok ins)) : ins.opcodeDescriptor = d := by
  have hdec := decodeAt_of_final hk hf
  cases hd : decodeDescriptor l.attrs k slot d rest with
  | error e =>
    cases h.symm.trans (step_of_decode_error hv.initialized hv.response hv.latches (hdec.trans hd))
    obtain ⟨_, he⟩ := s.decodeFailure_response l e
    cases ht.symm.trans he
  | ok x =>
    obtain ⟨f, hn⟩ := hf.namesRow hd
    obtain ⟨l', -, rfl⟩ := serveRow_instruction ((step_of_namesRow hv (hdec.trans hd) hn).symm.trans h) ht
    rfl

/-- Settles O17: without a byte, and at an empty slot, the lookup is a decode error; a slot with a descriptor is
final. -/
theorem groupResolution : Obligations.GroupResolution := by
  intro s l k slots hv hg
  refine ⟨fun hk => ?_, fun m more hk => ⟨fun hj => ?_, fun d t ins hd h ht => ?_⟩⟩
  · have hd : s.decodeAt l = .error (.truncated .modrm 1 []) := by rw [hk.decodeAt, decodeKey, hg]
    exact step_of_decode_error hv.initialized hv.response hv.latches hd
  · have hd : s.decodeAt l = .error (.emptySlot k m) := by
      simp only [hk.decodeAt, decodeKey, hg, ModRM.ofByte, hj]
    exact step_of_decode_error hv.initialized hv.response hv.latches hd
  · exact instruction_of_final hv hk (.inr ⟨slots, m, more, rfl, rfl, hg, hd⟩) h ht

end Sys2Proof.Machine
end

section
/-!
PROOFS of the family 42_addressing_resolver.md. What each former of the resolver gives, field by field; the
segment of an operand as one equation over all methods (`resolve_segreg`); the displacement by mod
(`dispSize16_eq`, `dispSize32_eq`, `dispValue_byMod`); and the consumer's formulas modulo a power of two.
-/

namespace Sys2Proof.Machine

variable (c : Ctx)

/-! ## The formers, field by field (R181, R193, R200 to R212) -/

theorem registerOperand_eq (r : Option Reg) :
    registerOperand c r = ⟨r, none, 1, 0, 0, 0, 0, false, c.seg.getD .ds⟩ := rfl

theorem immediateOperand_eq (v n : Nat) :
    immediateOperand c v n = ⟨none, none, 1, 0, 0, v, n, false, c.seg.getD .ds⟩ := rfl

theorem offsetOperand_eq (v n : Nat) :
    offsetOperand c v n = ⟨none, none, 1, v, n, 0, 0, true, c.seg.getD .ds⟩ := rfl

theorem stringOperand_eq (r : Reg) (seg : SegReg) :
    stringOperand r seg = ⟨some r, none, 1, 0, 0, 0, 0, true, seg⟩ := rfl

theorem memoryOperand_eq (mo : MemoryOperand) :
    memoryOperand c mo = ⟨mo.base, mo.index, mo.scale, mo.disp, mo.dsize, 0, 0, true,
      c.seg.getD (defaultSegment mo.base)⟩ := rfl

theorem defaultSegment_eq_ite (base : Option Reg) :
    defaultSegment base = if base ∈ [some Reg.bp, some .ebp, some .esp] then .ss else .ds := by
  simp only [defaultSegment, List.mem_cons, List.not_mem_nil, or_false]

variable {c} {m : ModRM} {mo : MemoryOperand}

theorem rmOperand_of_register (hm : c.modrm = some m) (h3 : m.mod = 3#2) (t : OpType) :
    rmOperand c t = registerOperand c (regOf c t m.rm) := by
  simp only [rmOperand, hm, if_pos h3]

theorem rmOperand_of_memory (hm : c.modrm = some m) (h3 : m.mod ≠ 3#2) (hmo : c.mem = some mo) (t : OpType) :
    rmOperand c t = memoryOperand c mo := by
  simp only [rmOperand, hm, if_neg h3, hmo]

theorem regFieldOperand_of_modrm (hm : c.modrm = some m) (pick : BitVec 3 → Option Reg) :
    regFieldOperand c pick = registerOperand c (pick m.reg) := by
  rw [regFieldOperand, hm, Option.bind_some]

/-! ## Operands of the ModRM byte, of trailing fields and of none -/

/-- Settles O32: an E or M operand is the register or the memory operand by mod, and every other one is the
entry of a column. -/
theorem modRMOperands : Obligations.ModRMOperands := by
  intro c m t f hr hm
  refine ⟨fun h3 => ?_, fun h3 mo hmo sp hsp => ?_, regFieldOperand_of_modrm hm _, ?_, ?_, ?_, ?_⟩
  · exact ⟨rmOperand_of_register hm h3 t, rmOperand_of_register hm h3 t, rmOperand_of_register hm h3 .v⟩
  · have hres : ∃ t', resolve c sp f = rmOperand c t' := by
      simp only [List.mem_cons, List.not_mem_nil, or_false] at hsp
      rcases hsp with rfl | rfl | rfl
      · exact ⟨t, rfl⟩
      · exact ⟨t, rfl⟩
      · exact ⟨.v, rfl⟩
    obtain ⟨t', ht'⟩ := hres
    rw [ht', rmOperand_of_memory hm h3 hmo, memoryOperand_eq, defaultSegment_eq_ite]
  · simp only [resolve, hm, hr, Option.bind_some, registerOperand_eq]
    rfl
  all_goals
    simp only [resolve, regFieldOperand_of_modrm hm, hr, registerOperand_eq]
    rfl

/-- Joining a byte below is adding 256 times what stands above it: the little-endian order of R72. -/
theorem toNat_append_byte {w : Nat} (a : BitVec w) (b : Byte) : (a ++ b).toNat = b.toNat + 256 * a.toNat := by
  rw [BitVec.toNat_append, ← Nat.shiftLeft_add_eq_or_of_lt b.isLt, Nat.shiftLeft_eq]
  omega

/-- Settles O33: an operand of a trailing field holds its value and size, and each type has its size. -/
theorem trailingOperands : Obligations.TrailingOperands := by
  intro a c t f
  refine ⟨offsetOperand_eq c _ _, immediateOperand_eq c _ _, immediateOperand_eq c _ _,
    fun b0 b1 b2 b3 rest => ⟨rfl, ?_, ?_⟩, by simp [Spec.trailing?, immSize], rfl, ?_, ?_, fun sp hI hJ hO => ?_⟩
  · simp only [takeField, Option.map_some, Field.value, toNat_append_byte]
  · simp only [takeField, Option.map_some, Field.value, toNat_append_byte, Option.some.injEq]
    omega
  · cases hw : a.osz <;> simp [Spec.trailing?, immSize, hw, Width.bytes]
  · cases hw : a.asz <;> simp [Spec.trailing?, hw, Width.bytes]
  · cases sp with
    | I t => exact absurd rfl (hI t)
    | J t => exact absurd rfl (hJ t)
    | O t => exact absurd rfl (hO t)
    | _ => rfl

/-- Settles O34: the registers by width, the rest read off. -/
theorem implicitOperands : Obligations.ImplicitOperands := by
  intro c t f
  refine ⟨rfl, rfl, rfl, rfl, ?_, fun r => rfl, fun b hb => ?_, ?_, ?_⟩
  · cases hw : c.osz <;> simp [resolve, fixedRegister, hw, registerOperand_eq]
  · have hlast : c.key.last = b := by rcases hb with hb | hb <;> rw [hb] <;> rfl
    rw [← hlast]
    rfl
  · cases hw : c.asz <;> simp [resolve, hw, stringOperand_eq, plainSegment]
  · cases hw : c.asz <;> simp [resolve, hw, stringOperand_eq]

/-- Settles O27: each column read off the fixed table, the types of operand size by that size. -/
theorem registerSelection : Obligations.RegisterSelection := by
  intro c n hr
  refine ⟨?_, ?_, ?_, fun t ht => ?_, fun f => rfl⟩
  · rw [regOf, hr]; rfl
  · rw [regOf, hr]; rfl
  · rw [regOf, hr]; rfl
  · have hv : regOf c t n = regOf c .v n := by
      simp only [List.mem_cons, List.not_mem_nil, or_false] at ht
      rcases ht with rfl | rfl | rfl | rfl <;> rfl
    rw [hv, regOf, hr]
    cases c.osz <;> rfl

/-! ## The segment of an operand (R189, R210) -/

/-- The segment an E or M operand has without an override: by the base of its memory part, DS for a register. -/
def Ctx.rmSegment (c : Ctx) : SegReg :=
  match c.modrm, c.mem with
  | some m, some mo => if m.mod = 3#2 then .ds else defaultSegment mo.base
  | _, _ => .ds

theorem Ctx.rmSegment_of_register (hm : c.modrm = some m) (h3 : m.mod = 3#2) : c.rmSegment = .ds := by
  cases hmo : c.mem with
  | none => simp only [Ctx.rmSegment, hm, hmo]
  | some mo => simp only [Ctx.rmSegment, hm, hmo, if_pos h3]

theorem Ctx.rmSegment_of_memory (hm : c.modrm = some m) (h3 : m.mod ≠ 3#2) (hmo : c.mem = some mo) :
    c.rmSegment = defaultSegment mo.base := by
  simp only [Ctx.rmSegment, hm, hmo, if_neg h3]

variable (c)

theorem rmOperand_segreg (t : OpType) : (rmOperand c t).segreg = c.seg.getD c.rmSegment := by
  unfold rmOperand Ctx.rmSegment
  cases c.modrm with
  | none => rfl
  | some m =>
    by_cases h3 : m.mod = 3#2
    · cases c.mem <;> simp [h3, registerOperand_eq]
    · cases c.mem <;> simp [h3, memoryOperand_eq, baseOperand, plainSegment]

/-- An override wins for every method but Y; without one only E and M look at the memory part. -/
theorem resolve_segreg {sp : Spec} (hy : ∀ t, sp ≠ .Y t) (f : Field) :
    (resolve c sp f).segreg = c.seg.getD (if sp.readsMem then c.rmSegment else .ds) := by
  cases sp with
  | E t => exact rmOperand_segreg c t
  | M t => cases t <;> exact rmOperand_segreg c _
  | Y t => exact absurd rfl (hy t)
  | _ => rfl

theorem readsMem_iff {sp : Spec} : sp.readsMem = true ↔ (∃ t, sp = .E t) ∨ ∃ t, sp = .M t := by
  cases sp <;> simp [Spec.readsMem]

/-- Settles O31: Y is ES by itself, and the other three clauses are `resolve_segreg` with and without an
override. -/
theorem segmentResolution : Obligations.SegmentResolution := by
  refine ⟨fun _ _ _ => rfl, fun c sp f r hy hs => ?_, fun c sp f m mo hs hsp hm h3 hmo => ?_,
    fun c sp f hs hy hsp => ?_⟩
  · rw [resolve_segreg c hy, hs, Option.getD_some]
  · have hy : ∀ t, sp ≠ .Y t := by
      rintro t rfl
      simp at hsp
    rw [resolve_segreg c hy, hs, Option.getD_none, if_pos (readsMem_iff.2 hsp), Ctx.rmSegment_of_memory hm h3 hmo,
      defaultSegment_eq_ite]
  · rw [resolve_segreg c hy, hs, Option.getD_none]
    split
    · obtain ⟨m, hm, h3⟩ := hsp (readsMem_iff.1 ‹_›)
      exact Ctx.rmSegment_of_register hm h3
    · rfl

/-! ## The memory part (R185 to R188) -/

theorem base16_eq (rm : BitVec 3) :
    base16 rm =
      ([some Reg.bx, some .bx, some .bp, some .bp, some .si, some .di, some .bp, some .bx].getD rm.toNat none,
        [some Reg.si, some .di, some .si, some .di, none, none, none, none].getD rm.toNat none) := by
  revert rm
  decide

theorem dispSize16_eq {mod : BitVec 2} (hm : mod ≠ 3#2) (rm : BitVec 3) :
    dispSize16 mod rm = if mod = 0#2 ∧ rm = 6#3 then 2 else [0, 1, 2].getD mod.toNat 0 := by
  revert mod rm
  decide

theorem dispSize32_eq {mod : BitVec 2} (hm : mod ≠ 3#2) (base : BitVec 3) :
    dispSize32 mod base = if mod = 0#2 ∧ base = 5#3 then 4 else [0, 1, 4].getD mod.toNat 0 := by
  revert mod base
  decide

theorem dispValue_one (v : Nat) : dispValue v 1 = if v < 128 then (v : Int) else v - 256 := rfl

theorem dispValue_of_two_le {n : Nat} (hn : 2 ≤ n) (v : Nat) : dispValue v n = v := by
  rw [dispValue, if_neg (by omega), if_neg (by omega)]

/-- No displacement for mod 00, a signed byte for 01, and `n` unsigned bytes for 10. -/
theorem dispValue_byMod {n : Nat} (hn : 2 ≤ n) {mod : BitVec 2} (hm : mod ≠ 3#2) (v : Nat) :
    dispValue v ([0, 1, n].getD mod.toNat 0) =
      [0, if v < 128 then (v : Int) else v - 256, (v : Int)].getD mod.toNat 0 := by
  have hcases : mod = 0#2 ∨ mod = 1#2 ∨ mod = 2#2 := by
    revert mod
    decide
  rcases hcases with rfl | rfl | rfl
  · rfl
  · exact dispValue_one v
  · exact dispValue_of_two_le hn v

/-- Settles O28: by whether the form is the direct address, which has no base. -/
theorem memoryPart16 : Obligations.MemoryPart16 := by
  intro regs mod reg rm sib v hm
  change memory16 mod rm v _ = _
  rw [memory16, dispSize16_eq hm]
  by_cases hd : mod = 0#2 ∧ rm = 6#3
  · simp only [if_pos hd, dispValue_of_two_le le_rfl]
  · simp only [if_neg hd, base16_eq, dispValue_byMod le_rfl hm]

/-- Settles O29: each part by whether its base is absent, the index of a SIB byte by itself. -/
theorem memoryPart32 : Obligations.MemoryPart32 := by
  refine ⟨fun mod reg rm v hm _ => ?_, fun mod reg b v hm => ?_⟩
  · change memory32 RegisterTable.fixed mod rm v _ = _
    rw [memory32, dispSize32_eq hm]
    by_cases hd : mod = 0#2 ∧ rm = 5#3
    · simp only [if_pos hd, dispValue_of_two_le (show 2 ≤ 4 by decide)]
    · simp only [if_neg hd, dispValue_byMod (show 2 ≤ 4 by decide) hm]
      rfl
  · have hscale : ∀ ss : BitVec 2, 2 ^ ss.toNat = [1, 2, 4, 8].getD ss.toNat 0 := by decide
    change memorySib RegisterTable.fixed mod ⟨b.extractLsb' 6 2, b.extractLsb' 3 3, b.extractLsb' 0 3⟩ v
      (dispSize32 mod (b.extractLsb' 0 3)) = _
    rw [memorySib, sibBase, sibIndex, sibScale, hscale, dispSize32_eq hm]
    by_cases hd : b.extractLsb' 0 3 = 5#3 ∧ mod = 0#2
    · simp only [if_pos hd, if_pos hd.symm, dispValue_of_two_le (show 2 ≤ 4 by decide)]
      rfl
    · simp only [if_neg hd, if_neg (mt And.symm hd), dispValue_byMod (show 2 ≤ 4 by decide) hm]
      rfl

theorem sext8_toNat (b : BitVec 8) : sext8 b.toNat = b.toInt := by
  rw [sext8, BitVec.toInt_eq_toNat_cond]
  split <;> split <;> omega

/-- Settles O30: one byte is its two's complement value, more are unsigned. -/
theorem displacementValue : Obligations.DisplacementValue := by
  refine ⟨fun b => ?_, fun v => ?_, fun v => ?_⟩
  · have hv : dispValue b.toNat 1 = b.toInt := sext8_toNat b
    have hlow := b.le_toInt
    have hhigh := b.toInt_lt
    rw [hv]
    omega
  · rw [dispValue_of_two_le le_rfl]
    have hlt := v.isLt
    omega
  · rw [dispValue_of_two_le (by decide)]
    have hlt := v.isLt
    omega

/-! ## What the consumer computes (R202, R203, R215) -/

/-- Sign extension of an `n`-byte value does not change it modulo `2^(8n)`. -/
theorem sextBytes_emod (n v : Nat) : sextBytes n v % 2 ^ (8 * n) = v % 2 ^ (8 * n) := by
  unfold sextBytes
  split
  · rfl
  · exact Int.sub_emod_right ..

theorem sextBytes_toNat (n : Nat) (b : BitVec (8 * n)) : sextBytes n b.toNat = b.toInt := by
  rw [sextBytes, BitVec.toInt_eq_toNat_cond]
  push_cast
  rfl

/-- Displacements equal modulo `2^asz` give the same effective offset. -/
theorem effectiveOffset_congr {value : Reg → Nat} {asz : Width} {o : OperandDescriptor} {d d' : Int} {n n' : Nat}
    (h : d % 2 ^ widthBits asz = d' % 2 ^ widthBits asz) :
    effectiveOffset value asz { o with displacement := d, displacementSize := n } =
      effectiveOffset value asz { o with displacement := d', displacementSize := n' } :=
  Int.add_emod_eq_add_emod_left _ h

theorem effectiveOffset_range (value : Reg → Nat) (asz : Width) (o : OperandDescriptor) :
    0 ≤ effectiveOffset value asz o ∧ effectiveOffset value asz o < 2 ^ widthBits asz := by
  have hpos : (0 : Int) < 2 ^ widthBits asz := Int.pow_pos (by decide)
  exact ⟨Int.emod_nonneg _ hpos.ne', Int.emod_lt_of_pos _ hpos⟩

/-- A direct offset of the address size has no register to add and does not wrap. -/
theorem effectiveOffset_direct (value : Reg → Nat) (t : OpType) {f : Field} (hf : f.size = c.asz.bytes) :
    effectiveOffset value c.asz (resolve c (.O t) f) = f.value := by
  have hlt : f.value < 2 ^ widthBits c.asz := by
    rw [widthBits, ← hf]
    exact f.value_lt
  have hsum : effectiveOffset value c.asz (resolve c (.O t) f) = (f.value : Int) % 2 ^ widthBits c.asz := by
    simp [effectiveOffset, resolve, offsetOperand_eq, registerValue]
  rw [hsum]
  exact Int.emod_eq_of_lt (Int.natCast_nonneg _) (by exact_mod_cast hlt)

theorem relativeTarget_relative (osz : Width) (next : Nat) (t : OpType) (f : Field) :
    relativeTarget osz next (resolve c (.J t) f) = ((next : Int) + sextBytes f.size f.value) % 2 ^ widthBits osz :=
  rfl

/-- Settles O49: sign extension is no change modulo `2^asz`, a direct offset does not wrap, and a relative
field of any size is sign-extended to its two's complement value. -/
theorem consumerValues : Obligations.ConsumerValues := by
  intro value c t
  refine ⟨fun o v _ => effectiveOffset_congr (sextBytes_emod c.asz.bytes v).symm, effectiveOffset_range value c.asz,
    fun f hf => effectiveOffset_direct c value t hf, fun next b => ?_, fun next b hw => ?_, fun next b hw => ?_⟩
  · rw [relativeTarget_relative]
    exact congrArg (fun x => ((next : Int) + x) % _) (sextBytes_toNat 1 b)
  · rw [relativeTarget_relative, hw]
    exact congrArg (fun x => ((next : Int) + x) % _) (sextBytes_toNat 2 b)
  · rw [relativeTarget_relative, hw]
    exact congrArg (fun x => ((next : Int) + x) % _) (sextBytes_toNat 4 b)

/-! ## The segment register of an S operand (R198) -/

theorem isFpu_iff {sp : Spec} : sp.isFpu = true ↔ sp = .fpu := by
  cases sp <;> simp [Spec.isFpu]

theorem segmentMissing_of_S {d : OpcodeDescriptor} {t : OpType} (hS : Spec.S t ∈ d.specs)
    (hr : 6 ≤ m.reg.toNat) : segmentMissing d m = true := by
  have hany : d.specs.any Spec.isS = true := List.any_eq_true.2 ⟨_, hS, rfl⟩
  have hname : namesSegment m.reg = false := decide_eq_false (Nat.not_lt.2 hr)
  rw [segmentMissing, hany, hname]
  rfl

/-- The S-register check stands before the memory part and the trailing fields: no byte after the ModRM byte
plays a part. -/
theorem readFields_noSegment {a : Attrs} {k : Key} {g : Bool} {d : OpcodeDescriptor} {pos : Nat} {b : Byte}
    {more : List Byte} (hn : needsModRM g d = true) (hs : segmentMissing d (ModRM.ofByte b) = true) :
    readFields a k g d pos (b :: more) = .error (.noSegment k b) := by
  simp only [readFields, hn, hs, if_true]

/-- Settles O21: below 6 the column of segment registers has an entry, and otherwise the check of the ModRM byte
is the decode error. -/
theorem segmentRegisterOperand : Obligations.SegmentRegisterOperand := by
  refine ⟨fun c t f m hr hm hlt => ?_, fun s l k d t m more hv hk hfd hx hS hreg => ?_⟩
  · refine ⟨_, List.getElem?_eq_getElem hlt, ?_⟩
    change (regFieldOperand c _).reg = _
    rw [regFieldOperand_of_modrm hm, hr]
    exact congrArg (Option.map Reg.seg) (List.getElem?_eq_getElem hlt)
  · obtain ⟨slot, hf⟩ := final_iff.1 hfd
    have hany : ¬ d.specs.any Spec.isFpu = true := by
      rw [List.any_eq_true]
      rintro ⟨sp, hsp, hfpu⟩
      exact hx (isFpu_iff.1 hfpu ▸ hsp)
    have hn : needsModRM slot.isSome d = true :=
      Bool.or_eq_true_iff.2 (.inr (List.any_eq_true.2 ⟨_, hS, rfl⟩))
    have hs : segmentMissing d (ModRM.ofByte m) = true := by
      refine segmentMissing_of_S hS ?_
      rcases hreg with hreg | hreg <;> simp [ModRM.ofByte, hreg]
    have hd : s.decodeAt l = .error (.noSegment k m) := by
      rw [decodeAt_of_final hk hf, decodeDescriptor, if_neg hany, readFields_noSegment hn hs]
    exact step_of_decode_error hv.initialized hv.response hv.latches hd

end Sys2Proof.Machine
end

section
/-!
PROOFS of the family 43_decoder.md. A step case by case of the decoder's answer, and what every step leaves alone
(`Frame`).
-/

namespace Sys2Proof.Machine

variable {s t : State} {l l' : Latches}

/-! ## The decoded row -/

/-- Settles O37: the three answers of the decoder. -/
theorem stepServesTheDecodedRow : Obligations.StepServesTheDecodedRow := fun _ _ hv =>
  ⟨fun _ _ hd => step_of_decode_row hv.initialized hv.response hv.latches hd,
    fun _ _ _ _ hd => step_of_decode_configured hv.initialized hv.response hv.latches hd,
    fun _ hd => step_of_decode_error hv.initialized hv.response hv.latches hd⟩

/-! ## What serving a row leaves alone -/

/-- What serving a row of the request with latches `l` leaves as it was: everything but the response and the
latches, and of these the snapshot (R80, R250). -/
structure Frame (s : State) (l : Latches) (t : State) : Prop where
  params : t.params = s.params
  opcodeTable : t.opcodeTable = s.opcodeTable
  registerTable : t.registerTable = s.registerTable
  request : t.request = s.request
  snapshot : ∀ l', t.latches = some l' → l'.req = l.req

theorem Frame.withLatches (hr : l'.req = l.req) : Frame s l { s with latches := some l' } :=
  ⟨rfl, rfl, rfl, rfl, fun _ h => by cases h; exact hr⟩

/-- A failure leaves no latches (R904). -/
theorem Frame.raise (l' : Latches) (kind : FailKind) (p : Nat) (field : FailField) (bytes : List Byte) :
    Frame s l (s.raise l' kind p field bytes) :=
  ⟨rfl, rfl, rfl, rfl, fun _ h => by cases h⟩

theorem decodeFailure_frame (e : DecodeError) : Frame s l (s.decodeFailure l e) := by
  cases e <;> exact .raise ..

theorem answer_frame (hr : l'.req = l.req) (k : Key) (d : OpcodeDescriptor) (f : Fields) :
    Frame s l (s.answer l' k d f) := by
  unfold State.answer
  split
  · exact .raise ..
  · split
    · exact .raise ..
    · exact ⟨rfl, rfl, rfl, rfl, fun _ h => by cases h; exact hr⟩

theorem serveRow_frame (hl : s.latches = some l) {k : Key} {d : OpcodeDescriptor} {f : Fields}
    (h : serveRow k d f s = .next t) : Frame s l t := by
  rw [serveRow_next hl] at h
  cases h
  exact answer_frame (l := l) (l' := l.readOpcode s.opcodeTable k d) rfl k d f

theorem exec_frame (hl : s.latches = some l) {i : Instr} (h : exec i s = .next t) : Frame s l t := by
  rcases exec_cases i with ⟨g, he⟩ | he | he | ⟨name, specs, he⟩ <;> rw [he] at h
  · rw [servePrefix_next hl] at h
    cases h
    exact .withLatches rfl
  · rw [serveEscape_next hl] at h
    cases h
    exact .withLatches rfl
  · rw [serveUnassigned_next hl] at h
    cases h
    exact .raise ..
  · exact serveRow_frame hl h

/-- In any state with a request in progress, reached or not. -/
theorem step_frame (hi : s.initialized = true) (hp : s.response = none) (hl : s.latches = some l)
    (h : step s = .next t) : Frame s l t := by
  cases hd : s.decodeAt l with
  | error e =>
    rw [step_of_decode_error hi hp hl hd] at h
    cases h
    exact decodeFailure_frame e
  | ok x =>
    obtain ⟨i | ⟨k, d, f⟩, rest⟩ := x
    · rw [step_of_decode_row hi hp hl hd] at h
      exact exec_frame hl h
    · rw [step_of_decode_configured hi hp hl hd] at h
      exact serveRow_frame hl h

/-- Settles O44: a step sends, idles, accepts, or serves a row within its frame. -/
theorem nothingElseWritten : Obligations.NothingElseWritten := by
  intro s t hi h
  cases step_stepped h with
  | ofInitialise hi' => cases hi.symm.trans hi'
  | ofSend p _ hp =>
    exact ⟨rfl, rfl, rfl, .inr ⟨by rw [hp]; rfl, rfl⟩, fun _ _ _ hl' => (nomatch hl'), fun _ _ => rfl⟩
  | ofIdle _ hp hl =>
    exact ⟨rfl, rfl, rfl, .inl rfl, fun _ _ hl₁ => (nomatch hl.symm.trans hl₁), fun _ _ => hp⟩
  | ofAccept r _ hp hl =>
    exact ⟨rfl, rfl, rfl, .inl rfl, fun _ _ hl₁ => (nomatch hl.symm.trans hl₁), fun _ _ => hp⟩
  | ofServe l _ _ hp hl =>
    have hf := step_frame hi hp hl h
    refine ⟨hf.params, hf.opcodeTable, hf.registerTable, .inl hf.request, fun l₁ l' hl₁ hl' => ?_,
      fun p hp' => ?_⟩
    · cases hl.symm.trans hl₁
      exact hf.snapshot l' hl'
    · cases hp.symm.trans hp'

end Sys2Proof.Machine
end

section
/-!
PROOFS of the family 43_decoder.md, second part. The response to a request as a function of the bytes from its
offset on (`Scan.answer`), and that the procedure R240 over the view computes it (`decodeRequest_eq`): each of its
readers answers as the decoder's reader of the same fields does (`Reading.lift`).
-/

namespace Sys2Proof.Machine

/-! ## The response from the key on -/

/-- A request whose key has been read: its start, the offsets of its first and its last opcode byte, and what the
rest of R240 works with. -/
structure Reading where
  offset : Nat
  opcAt : Nat
  cur : Nat
  regs : RegisterTable
  attrs : Attrs
  ps : PrefixState
  key : Key

namespace Reading

variable (c : Reading)

/-- A failure of the request (R900). -/
def failure (kind : FailKind) (p : Nat) (field : FailField) (bytes : List Byte) : Failure :=
  ⟨kind, c.offset, p, field, bytes⟩

/-- The failure of bytes that are no row (R901, R902); positions count from the last opcode byte. -/
def report : DecodeError → Failure
  | .truncated field pos bytes => c.failure .truncatedInstruction (c.cur + pos) field bytes
  | .unassigned k => c.failure .invalidOpcode c.opcAt .opcode k.bytes
  | .emptySlot k m => c.failure .invalidOpcode c.opcAt .opcode (k.bytes ++ [m])
  | .noSegment k m => c.failure .invalidOpcode c.opcAt .opcode (k.bytes ++ [m])

/-- What a reader of the decoder has read, with its failures those of the request. -/
def lift {α β : Type} (g : α → β) : Except DecodeError (α × List Byte) → Except Failure β
  | .ok x => .ok (g x.1)
  | .error e => .error (c.report e)

/-- What the operands of a row are resolved from (R180). -/
def ctx (d : OpcodeDescriptor) (f : Fields) : Ctx :=
  ⟨c.regs, c.attrs.osz, c.attrs.asz, c.ps.seg, c.key, f.modrm, memoryLatch c.regs c.attrs.asz d f⟩

/-- The Instruction of a row (R241). -/
def instruction (d : OpcodeDescriptor) (f : Fields) : Instruction :=
  let ops := resolveAll (c.ctx d f) d.specs f.trailing
  ⟨d, c.cur + 1 + f.size - c.offset, c.attrs.osz = .s32, c.attrs.asz = .s32, ops[0]?, ops[1]?, ops[2]?, c.ps.seg,
    c.ps.lock, c.ps.rep⟩

/-- Steps 5 to 8 of R240 at a final descriptor, in a group or not. -/
def descriptorAnswer (inGroup : Bool) (d : OpcodeDescriptor) (bs : List Byte) : Except Failure Instruction :=
  if d.specs.any Spec.isFpu then .error (c.failure .unsupportedAddressingMode c.opcAt .opcode c.key.bytes)
  else c.lift (c.instruction d) (readFields c.attrs c.key inGroup d 1 bs)

/-- Steps 4 to 8 of R240 with `bs` the bytes after the key. -/
def answer (t : OpcodeTable) (bs : List Byte) : Except Failure Instruction :=
  match t.find c.key with
  | none => .error (c.report (.unassigned c.key))
  | some (.desc d) => c.descriptorAnswer false d bs
  | some (.group slots) =>
    match bs with
    | [] => .error (c.report (.truncated .modrm 1 []))
    | m :: more =>
      match slots[(m.extractLsb' 3 3).toNat]?.join with
      | none => .error (c.report (.emptySlot c.key m))
      | some d => c.descriptorAnswer true d (m :: more)

end Reading

/-! ## The response from the prefix scan on -/

/-- A request in the prefix scan. -/
structure Scan where
  offset : Nat
  is32 : Bool
  regs : RegisterTable
  ps : PrefixState
  cur : Nat

namespace Scan

/-- The scan of a request before its first byte. -/
def start (regs : RegisterTable) (r : Request) : Scan := ⟨r.offset, r.is32, regs, PrefixState.start, r.offset⟩

variable (c : Scan)

/-- No opcode byte at `p` (R902). -/
def cut (p : Nat) : Failure := ⟨.truncatedInstruction, c.offset, p, .opcode, []⟩

/-- The key read at the end of the scan: the escape before a two-byte key's own byte (R161). -/
def reading (k : Key) : Reading :=
  ⟨c.offset, c.cur, match k with | .one _ => c.cur | .two _ => c.cur + 1, c.regs, effectiveAttrs c.is32 c.ps,
    c.ps, k⟩

/-- Steps 3 to 8 of R240 at a byte that is no prefix. -/
def opcodeAnswer (t : OpcodeTable) (b : Byte) (bs : List Byte) : Except Failure Instruction :=
  if b = 0x0F#8 then
    match bs with
    | [] => .error (c.cut (c.cur + 1))
    | b1 :: rest => (c.reading (.two b1)).answer t rest
  else (c.reading (.one b)).answer t bs

/-- Steps 1 to 8 of R240 with `bs` the bytes from the cursor on. -/
def answer (c : Scan) (t : OpcodeTable) : List Byte → Except Failure Instruction
  | [] => .error (c.cut c.cur)
  | b :: bs =>
    match applyPrefix b c.ps with
    | some ps => answer { c with ps := ps, cur := c.cur + 1 } t bs
    | none => c.opcodeAnswer t b bs

end Scan

/-- The response that gives. -/
def toResponse : Except Failure Instruction → Response
  | .ok ins => .ok ins
  | .error f => .err f

/-! ## The bytes a source gives -/

/-- The view is canonical and reads stay inside it (R70, R906). -/
structure Source.Canonical (src : Source) : Prop where
  view : src.view.wf = true
  limit : src.limit ≤ src.view.length

/-- The bytes from `p` on, as `MemRead` reaches them. -/
def Source.bytes (src : Source) (p : Nat) : List Byte := src.view.bytesFrom p src.limit

/-- Further on in a view there are the same bytes, less those before. -/
theorem Memory.bytesFrom_add {m : Memory} (hw : m.wf = true) (p n lim : Nat) :
    m.bytesFrom (p + n) lim = (m.bytesFrom p lim).drop n := by
  obtain ⟨bs, rfl⟩ : ∃ bs, m = Memory.ofBytes bs := ⟨_, Memory.eq_ofBytes hw⟩
  rw [Memory.bytesFrom_ofBytes, Memory.bytesFrom_ofBytes, List.drop_drop]

/-- A byte of the view from `q` on, below the limit. -/
theorem Memory.getElem?_bytesFrom {m : Memory} (hw : m.wf = true) (q lim i : Nat) :
    (m.bytesFrom q lim)[i]? = if q + i < lim then m.byteAt (q + i) else none := by
  obtain ⟨bs, rfl⟩ : ∃ bs, m = Memory.ofBytes bs := ⟨_, Memory.eq_ofBytes hw⟩
  rw [Memory.bytesFrom_ofBytes, Memory.byteAt_ofBytes, List.getElem?_drop, List.getElem?_take]

/-- The value of a field is its bytes as digits, the least significant first (R72). -/
theorem value_eq_ofDigits (f : Field) : f.value = Nat.ofDigits 256 (f.bytes.map BitVec.toNat) := by
  cases f with
  | absent => rfl
  | f8 v => simp [Field.value, Field.bytes, Nat.ofDigits_cons]
  | f16 v =>
    conv_lhs => rw [Field.value, ← join16 v]
    simp [Field.bytes, Nat.ofDigits_cons, toNat_append_byte]
  | f32 v =>
    conv_lhs => rw [Field.value, ← join32 v]
    simp [Field.bytes, Nat.ofDigits_cons, toNat_append_byte]

section Source

variable {src : Source} (hs : src.Canonical)

include hs

theorem Source.Canonical.length_bytes (p : Nat) : (src.bytes p).length = src.limit - p :=
  Memory.length_bytesFrom hs.view p hs.limit

theorem Source.Canonical.bytes_add (p n : Nat) : src.bytes (p + n) = (src.bytes p).drop n :=
  Memory.bytesFrom_add hs.view p n src.limit

theorem Source.Canonical.bytes_of_append {p n : Nat} {xs ys : List Byte} (h : src.bytes p = xs ++ ys)
    (hn : xs.length = n) : src.bytes (p + n) = ys := by
  rw [hs.bytes_add, h, ← hn, List.drop_left]

theorem Source.Canonical.bytes_of_cons {p : Nat} {b : Byte} {bs : List Byte} (h : src.bytes p = b :: bs) :
    src.bytes (p + 1) = bs :=
  hs.bytes_of_append (xs := [b]) h rfl

theorem Source.Canonical.byteAt_of_cons {p : Nat} {b : Byte} {bs : List Byte} (h : src.bytes p = b :: bs) :
    src.view.byteAt p = some b := by
  have hlt : p < src.limit := by
    have hlen := hs.length_bytes p
    rw [h, List.length_cons] at hlen
    omega
  obtain ⟨b', hb', hcons⟩ := Memory.bytesFrom_cons hs.view hlt hs.limit
  change src.bytes p = _ at hcons
  rw [h] at hcons
  cases hcons
  exact hb'

theorem Source.Canonical.littleEndian_eq {p : Nat} {bs rest : List Byte} (h : src.bytes p = bs ++ rest) :
    littleEndian src.view p bs.length = Nat.ofDigits 256 (bs.map BitVec.toNat) := by
  induction bs generalizing p with
  | nil => rfl
  | cons b bs ih =>
    rw [List.length_cons, littleEndian, hs.byteAt_of_cons h, ih (hs.bytes_of_cons h), List.map_cons,
      Nat.ofDigits_cons]
    rfl

theorem readByte_of_nil {p : Nat} (h : src.bytes p = []) (field : FailField) :
    readByte src p field = .error (src.failure .truncatedInstruction p field []) := by
  have hlen := hs.length_bytes p
  rw [h, List.length_nil] at hlen
  change src.view.bytesFrom p src.limit = [] at h
  rw [readByte, memRead, if_neg (by omega), h]
  rfl

theorem readByte_of_cons {p : Nat} {b : Byte} {bs : List Byte} (h : src.bytes p = b :: bs) (field : FailField) :
    readByte src p field = .ok b := by
  have hlen := hs.length_bytes p
  rw [h, List.length_cons] at hlen
  have hle : littleEndian src.view p 1 = _ := hs.littleEndian_eq (bs := [b]) h
  rw [readByte, memRead, if_pos (by omega), hle]
  simp [Except.map, Nat.ofDigits_cons]

end Source

/-! ## The readers of the procedure -/

theorem failure_eq {src : Source} {c : Reading} (hc : c.offset = src.offset) (kind : FailKind) (p : Nat)
    (field : FailField) (bytes : List Byte) : src.failure kind p field bytes = c.failure kind p field bytes := by
  rw [Source.failure, Reading.failure, hc]

section Readers

variable {src : Source} (hs : src.Canonical) {c : Reading} (hc : c.offset = src.offset) {p pos : Nat}
  (hp : p = c.cur + pos)

include hs hc hp

theorem memRead_eq {n : Nat} (hn : n = 1 ∨ n = 2 ∨ n = 4) (field : FailField) :
    memRead src p n field = c.lift Field.value (readField field n pos (src.bytes p)) := by
  have hlen := hs.length_bytes p
  cases hr : readField field n pos (src.bytes p) with
  | ok x =>
    obtain ⟨f, rest⟩ := x
    obtain ⟨rfl, hb⟩ := readField_ok hr
    rw [hb, List.length_append, Field.length_bytes] at hlen
    rw [memRead, if_pos (by omega), ← f.length_bytes, hs.littleEndian_eq hb, ← value_eq_ofDigits]
    rfl
  | error e =>
    obtain ⟨rfl, hlt⟩ := readField_error (.inr hn) hr
    rw [memRead, if_neg (by omega), failure_eq hc, hp]
    rfl

theorem readDisplacement_eq {n : Nat} (hn : n = 0 ∨ n = 1 ∨ n = 2 ∨ n = 4) :
    readDisplacement src p n = c.lift Field.value (readField .displacement n pos (src.bytes p)) := by
  rcases hn with rfl | hn
  · rfl
  · rw [readDisplacement, if_neg (by omega), memRead_eq hs hc hp hn]

/-- The displacement with its size and the SIB byte before it, as the decoder reads them. -/
theorem map_readDisplacement {β : Type} {n : Nat} (hn : n = 0 ∨ n = 1 ∨ n = 2 ∨ n = 4) (sib : Option Sib)
    (g : Option Sib → Nat → Nat → β) :
    (readDisplacement src p n).map (fun v => g sib v n) =
      c.lift (fun x => g x.1 x.2.value x.2.size) (readDisp sib n pos (src.bytes p)) := by
  rw [readDisplacement_eq hs hc hp hn, readDisp]
  cases hr : readField .displacement n pos (src.bytes p) with
  | error e => rfl
  | ok x =>
    rw [← (readField_ok hr).1]
    rfl

/-- Step 6 of R240 after the ModRM byte. -/
theorem readMemoryPart_eq (regs : RegisterTable) (asz : Width) (m : ModRM) :
    readMemoryPart src regs asz m.mod m.rm p =
      c.lift (fun x => (memoryPart regs asz m x.1 x.2.value x.2.size, p + x.1.toList.length + x.2.size))
        (readMemory asz m pos (src.bytes p)) := by
  have h16 := dispSize16_cases m.mod m.rm
  have h32 : ∀ r, _ := dispSize32_cases m.mod
  unfold readMemoryPart readMemory
  cases asz with
  | s16 =>
    simp only
    rw [← map_readDisplacement hs hc hp h16 none
      fun sib v n => (memoryPart regs .s16 m sib v n, p + sib.toList.length + n)]
    cases readDisplacement src p (dispSize16 m.mod m.rm) <;> rfl
  | s32 =>
    simp only [sibFollows_s32, decide_eq_true_eq]
    split
    · cases hb : src.bytes p with
      | nil =>
        rw [readByte_of_nil hs hb, failure_eq hc, hp]
        rfl
      | cons b bs =>
        have hp' : p + 1 = c.cur + (pos + 1) := by omega
        simp only [readByte_of_cons hs hb]
        rw [← hs.bytes_of_cons hb, ← map_readDisplacement hs hc hp' (h32 _) (some (Sib.ofByte b))
          fun sib v n => (memoryPart regs .s32 m sib v n, p + sib.toList.length + n)]
        cases readDisplacement src (p + 1) (dispSize32 m.mod (Sib.ofByte b).base) <;> rfl
    · rw [← map_readDisplacement hs hc hp (h32 _) none
        fun sib v n => (memoryPart regs .s32 m sib v n, p + sib.toList.length + n)]
      cases readDisplacement src p (dispSize32 m.mod m.rm) <;> rfl

end Readers

/-- A spec that trails reads its field and resolves from it, any other resolves from none (R124, R192). -/
theorem trails_eq (sp : Spec) (a : Attrs) : trails sp = (sp.trailing? a).isSome := by
  cases sp <;> rfl

theorem resolveAt_of_none (src : Source) {x : Ctx} {sp : Spec} (ht : sp.trailing? ⟨x.osz, x.asz⟩ = none) (p : Nat) :
    resolveAt src x sp p = .ok (resolve x sp .absent, p) := by
  cases sp with
  | O | I | J => cases ht
  | _ => rfl

section Operands

variable {src : Source} (hs : src.Canonical) {c : Reading} (hc : c.offset = src.offset) {p pos : Nat}
  (hp : p = c.cur + pos) (x : Ctx)

include hs hc hp

theorem resolveAt_of_some {sp : Spec} {n : Nat} {field : FailField}
    (ht : sp.trailing? ⟨x.osz, x.asz⟩ = some (n, field)) :
    resolveAt src x sp p = c.lift (fun f => (resolve x sp f, p + f.size)) (readField field n pos (src.bytes p)) := by
  have hread := memRead_eq hs hc hp (trailing_size ht) field
  cases hr : readField field n pos (src.bytes p) with
  | error e =>
    rw [hr] at hread
    cases sp with
    | O | I | J =>
      cases ht
      simp only [resolveAt, hread]
      rfl
    | _ => cases ht
  | ok y =>
    rw [hr] at hread
    have hn := (readField_ok hr).1
    cases sp with
    | O | I | J =>
      cases ht
      simp only [resolveAt, hread]
      simp only [← hn]
      rfl
    | _ => cases ht

/-- Step 7 of R240: the trailing fields read one after another, and handed out in that order (R192). -/
theorem resolveSpecs_eq (specs : List Spec) :
    resolveSpecs src x specs p =
      c.lift (fun fs => (resolveAll x specs fs, p + (fs.map Field.size).sum))
        (readTrailing ⟨x.osz, x.asz⟩ specs pos (src.bytes p)) := by
  induction specs generalizing p pos with
  | nil => rfl
  | cons sp sps ih =>
    have htr := trails_eq sp ⟨x.osz, x.asz⟩
    unfold resolveSpecs readTrailing
    cases ht : sp.trailing? ⟨x.osz, x.asz⟩ with
    | none =>
      rw [ht, Option.isSome_none] at htr
      simp only [resolveAt_of_none src ht, ih hp]
      cases readTrailing ⟨x.osz, x.asz⟩ sps pos (src.bytes p) <;> simp [Reading.lift, resolveAll, htr]
    | some nf =>
      obtain ⟨n, field⟩ := nf
      rw [ht, Option.isSome_some] at htr
      simp only [resolveAt_of_some hs hc hp x ht]
      cases hr : readField field n pos (src.bytes p) with
      | error e => rfl
      | ok y =>
        obtain ⟨f, rest⟩ := y
        obtain ⟨rfl, hb⟩ := readField_ok hr
        have hp' : p + f.size = c.cur + (pos + f.size) := by omega
        simp only [Reading.lift, ih hp', hs.bytes_of_append hb f.length_bytes]
        cases readTrailing ⟨x.osz, x.asz⟩ sps (pos + f.size) rest <;>
          simp [resolveAll, htr, Nat.add_assoc]

end Operands

/-! ## The ModRM block, case by case (R183, R184, R198) -/

theorem segmentMissing_ofByte (d : OpcodeDescriptor) (b : Byte) :
    segmentMissing d (ModRM.ofByte b) = (d.specs.any Spec.isS && decide (6 ≤ (b.extractLsb' 3 3).toNat)) := by
  have hnot : ∀ n, (!decide (n < 6)) = decide (6 ≤ n) := fun n =>
    decide_not.symm.trans (decide_eq_decide.2 Nat.not_lt)
  exact congrArg _ (hnot _)

theorem needsMemory_ofByte {d : OpcodeDescriptor} {b : Byte} :
    needsMemory d (ModRM.ofByte b) = true ↔ b.extractLsb' 6 2 ≠ 3#2 ∧ d.specs.any Spec.readsMem := by
  simp [needsMemory, ModRM.ofByte]

section ModRMBlock

variable {src : Source} {regs : RegisterTable} {asz : Width} {k : Key} {sel : Selected} {opcAt cur : Nat}

theorem readModRMBlock_of_none (hn : needsModRM sel.inGroup sel.desc = false) :
    readModRMBlock src regs asz k sel opcAt cur = .ok (⟨none, none⟩, cur) := by
  unfold needsModRM at hn
  simp only [readModRMBlock, hn, Bool.false_eq_true, if_false]

variable (hn : needsModRM sel.inGroup sel.desc = true)

include hn

theorem readModRMBlock_of_error {f : Failure} (hr : readByte src cur .modrm = .error f) :
    readModRMBlock src regs asz k sel opcAt cur = .error f := by
  unfold needsModRM at hn
  simp only [readModRMBlock, hn, hr, if_true]

variable {b : Byte} (hr : readByte src cur .modrm = .ok b)

include hr

theorem readModRMBlock_of_noSegment (hseg : segmentMissing sel.desc (ModRM.ofByte b) = true) :
    readModRMBlock src regs asz k sel opcAt cur =
      .error (src.failure .invalidOpcode opcAt .opcode (k.bytes ++ [b])) := by
  unfold needsModRM at hn
  rw [segmentMissing_ofByte] at hseg
  simp only [readModRMBlock, hn, hr, hseg, if_true]

variable (hseg : segmentMissing sel.desc (ModRM.ofByte b) = false)

include hseg

theorem readModRMBlock_of_register (hm : ¬ needsMemory sel.desc (ModRM.ofByte b) = true) :
    readModRMBlock src regs asz k sel opcAt cur = .ok (⟨some b, none⟩, cur + 1) := by
  unfold needsModRM at hn
  rw [segmentMissing_ofByte] at hseg
  rw [needsMemory_ofByte] at hm
  simp only [readModRMBlock, hn, hr, hseg, hm, Bool.false_eq_true, if_true, if_false]

theorem readModRMBlock_of_memory (hm : needsMemory sel.desc (ModRM.ofByte b) = true) :
    readModRMBlock src regs asz k sel opcAt cur =
      (readMemoryPart src regs asz (ModRM.ofByte b).mod (ModRM.ofByte b).rm (cur + 1)).map fun x =>
        (⟨some b, some x.1⟩, x.2) := by
  unfold needsModRM at hn
  rw [segmentMissing_ofByte] at hseg
  rw [needsMemory_ofByte] at hm
  unfold readModRMBlock
  rw [if_pos hn, hr]
  simp only [hseg, Bool.false_eq_true, if_false]
  rw [if_pos hm]
  change _ = (readMemoryPart src regs asz (b.extractLsb' 6 2) (b.extractLsb' 0 3) (cur + 1)).map _
  cases readMemoryPart src regs asz (b.extractLsb' 6 2) (b.extractLsb' 0 3) (cur + 1) <;> rfl

end ModRMBlock

/-! ## The procedure from the key on -/

/-- Steps 7 and 8 of R240 after the ModRM block. -/
def Reading.operandsAnswer (c : Reading) (src : Source) (d : OpcodeDescriptor) (blk : Block) (p : Nat) :
    Except Failure Instruction :=
  match resolveSpecs src ⟨c.regs, c.attrs.osz, c.attrs.asz, c.ps.seg, c.key, blk.modrm.map ModRM.ofByte, blk.mem⟩
    d.specs p with
  | .error f => .error f
  | .ok (ops, cur) =>
    .ok ⟨d, cur - src.offset, c.attrs.osz = .s32, c.attrs.asz = .s32, ops[0]?, ops[1]?, ops[2]?, c.ps.seg, c.ps.lock,
      c.ps.rep⟩

/-- Steps 6 to 8 of R240. -/
def Reading.blockAnswer (c : Reading) (src : Source) (sel : Selected) : Except Failure Instruction :=
  match readModRMBlock src c.regs c.attrs.asz c.key sel c.opcAt (c.cur + 1) with
  | .error f => .error f
  | .ok (blk, p) => c.operandsAnswer src sel.desc blk p

section FromKey

variable {src : Source} (hs : src.Canonical) {c : Reading} (hc : c.offset = src.offset)

include hs hc

theorem operandsAnswer_eq (d : OpcodeDescriptor) {m : Option ModRM} {sib : Option Sib} {disp : Field} {blk : Block}
    {p : Nat} (hm : blk.modrm.map ModRM.ofByte = m)
    (hmem : blk.mem = memoryLatch c.regs c.attrs.asz d ⟨m, sib, disp, []⟩) {pos : Nat} (hp : p = c.cur + pos)
    (hpos : pos = 1 + m.toList.length + sib.toList.length + disp.size) :
    c.operandsAnswer src d blk p = c.lift (c.instruction d) (readRest c.attrs d m sib disp pos (src.bytes p)) := by
  unfold Reading.operandsAnswer readRest
  rw [hm, hmem, resolveSpecs_eq hs hc hp]
  cases readTrailing c.attrs d.specs pos (src.bytes p) with
  | error e => rfl
  | ok x =>
    have hlen : p + (x.1.map Field.size).sum - src.offset = c.cur + 1 + (Fields.mk m sib disp x.1).size - c.offset := by
      simp only [hc, hp, hpos, Fields.size]
      omega
    simp only [Reading.lift, hlen]
    rfl

/-- The ModRM block and the operands are read as the decoder reads the fields of a row. -/
theorem blockAnswer_eq (sel : Selected) :
    c.blockAnswer src sel =
      c.lift (c.instruction sel.desc) (readFields c.attrs c.key sel.inGroup sel.desc 1 (src.bytes (c.cur + 1))) := by
  unfold Reading.blockAnswer
  by_cases hn : needsModRM sel.inGroup sel.desc = true
  · cases hb : src.bytes (c.cur + 1) with
    | nil =>
      rw [readModRMBlock_of_error hn (readByte_of_nil hs hb _), failure_eq hc, readFields, if_pos hn]
      rfl
    | cons b bs =>
      have hr := readByte_of_cons hs hb .modrm
      have hbs := hs.bytes_of_cons hb
      by_cases hseg : segmentMissing sel.desc (ModRM.ofByte b) = true
      · rw [readModRMBlock_of_noSegment hn hr hseg, failure_eq hc, readFields_noSegment hn hseg]
        rfl
      · rw [Bool.not_eq_true] at hseg
        rw [readFields, if_pos hn]
        simp only [hseg, Bool.false_eq_true, if_false]
        by_cases hm : needsMemory sel.desc (ModRM.ofByte b) = true
        · rw [if_pos hm, readModRMBlock_of_memory hn hr hseg hm,
            readMemoryPart_eq hs hc (pos := 1 + 1) (Nat.add_assoc ..), hbs]
          cases hrm : readMemory c.attrs.asz (ModRM.ofByte b) (1 + 1) bs with
          | error e => rfl
          | ok x =>
            obtain ⟨⟨sib, disp⟩, rest⟩ := x
            have hblock : ((sib.map Sib.toByte).toList ++ disp.bytes).length = sib.toList.length + disp.size := by
              cases sib <;> simp [Nat.add_comm]
            have hrest := hs.bytes_of_append (hbs.trans (readMemory_ok hrm).2) hblock
            rw [← Nat.add_assoc] at hrest
            simp only [← hrest]
            exact operandsAnswer_eq hs hc sel.desc (m := some _) rfl (by simp [memoryLatch, hm])
              (by simp only; omega) rfl
        · rw [if_neg hm, readModRMBlock_of_register hn hr hseg hm, ← hbs]
          exact operandsAnswer_eq hs hc sel.desc (m := some _) (sib := none) (disp := .absent) rfl
            (by simp [memoryLatch, hm]) (Nat.add_assoc ..) rfl
  · rw [Bool.not_eq_true] at hn
    rw [readModRMBlock_of_none hn, readFields.eq_def, if_neg (by simp [hn])]
    exact operandsAnswer_eq hs hc sel.desc (m := none) (sib := none) (disp := .absent) rfl rfl rfl rfl

/-- Steps 4 and 5 of R240: the peek of a group's ModRM byte is that of the bytes after the key. -/
theorem decodeFromKey_eq (t : OpcodeTable) :
    decodeFromKey src t c.regs c.attrs c.ps c.opcAt c.key (c.cur + 1) = c.answer t (src.bytes (c.cur + 1)) := by
  have hsel : ∀ sel, selectDescriptor src t c.key c.opcAt (c.cur + 1) = .ok sel →
      decodeFromKey src t c.regs c.attrs c.ps c.opcAt c.key (c.cur + 1) =
        c.descriptorAnswer sel.inGroup sel.desc (src.bytes (c.cur + 1)) := by
    intro sel h
    unfold decodeFromKey Reading.descriptorAnswer
    rw [h, ← blockAnswer_eq hs hc, ← failure_eq hc]
    rfl
  have hfail : ∀ f, selectDescriptor src t c.key c.opcAt (c.cur + 1) = .error f →
      decodeFromKey src t c.regs c.attrs c.ps c.opcAt c.key (c.cur + 1) = .error f := by
    intro f h
    rw [decodeFromKey, h]
  unfold Reading.answer
  cases hf : t.find c.key with
  | none =>
    refine (hfail _ ?_).trans (congrArg _ (failure_eq hc ..))
    rw [selectDescriptor, hf]
  | some e =>
    cases e with
    | desc d =>
      refine hsel ⟨d, false⟩ ?_
      rw [selectDescriptor, hf]
    | group slots =>
      cases hb : src.bytes (c.cur + 1) with
      | nil =>
        refine (hfail _ ?_).trans (congrArg _ (failure_eq hc ..))
        simp only [selectDescriptor, hf, readByte_of_nil hs hb]
      | cons m more =>
        have hr := readByte_of_cons hs hb .modrm
        cases hj : slots[(m.extractLsb' 3 3).toNat]?.join with
        | none =>
          simp only [hj]
          refine (hfail _ ?_).trans (congrArg _ (failure_eq hc ..))
          simp only [selectDescriptor, hf, hr, hj]
        | some d =>
          simp only [hj]
          rw [← hb]
          refine hsel ⟨d, true⟩ ?_
          simp only [selectDescriptor, hf, hr, hj]

end FromKey

/-! ## The procedure from the scan on -/

theorem cut_eq {src : Source} {c : Scan} (hc : c.offset = src.offset) (p : Nat) :
    src.failure .truncatedInstruction p .opcode [] = c.cut p := by
  rw [Source.failure, Scan.cut, hc]

/-- Steps 3 to 8 of R240 after the prefix scan. -/
def Scan.afterPrefixes (c : Scan) (src : Source) (t : OpcodeTable) : Except Failure Instruction :=
  match readKey src c.cur with
  | .error f => .error f
  | .ok (k, p) => decodeFromKey src t c.regs (effectiveAttrs c.is32 c.ps) c.ps c.cur k p

/-- Steps 1 to 8 of R240 from the cursor on. -/
def Scan.procedure (c : Scan) (src : Source) (t : OpcodeTable) (fuel : Nat) : Except Failure Instruction :=
  match scanPrefixes src fuel c.cur c.ps with
  | .error f => .error f
  | .ok (ps, p) => { c with ps := ps, cur := p : Scan }.afterPrefixes src t

section FromScan

variable {src : Source} (hs : src.Canonical) {c : Scan} (hc : c.offset = src.offset) (t : OpcodeTable)

include hs hc

theorem afterPrefixes_eq {b : Byte} {bs : List Byte} (hb : src.bytes c.cur = b :: bs) :
    c.afterPrefixes src t = c.opcodeAnswer t b bs := by
  have hbs := hs.bytes_of_cons hb
  unfold Scan.afterPrefixes Scan.opcodeAnswer
  by_cases he : b = 0x0F#8
  · rw [if_pos he]
    cases bs with
    | nil =>
      simp only [readKey, readByte_of_cons hs hb, he, if_true, readByte_of_nil hs hbs]
      exact congrArg _ (cut_eq hc _)
    | cons b1 rest =>
      simp only [readKey, readByte_of_cons hs hb, he, if_true, readByte_of_cons hs hbs]
      refine (decodeFromKey_eq hs (c := c.reading (.two b1)) hc t).trans ?_
      exact congrArg _ (hs.bytes_of_cons hbs)
  · simp only [readKey, readByte_of_cons hs hb, he, if_false]
    refine (decodeFromKey_eq hs (c := c.reading (.one b)) hc t).trans ?_
    exact congrArg _ hbs

/-- The procedure with fuel for the bytes from the cursor on gives what the bytes give. -/
theorem procedure_eq {bs : List Byte} (hb : src.bytes c.cur = bs) {fuel : Nat} (hf : bs.length < fuel) :
    c.procedure src t fuel = c.answer t bs := by
  obtain ⟨fuel, rfl⟩ := Nat.exists_eq_succ_of_ne_zero (Nat.ne_zero_of_lt hf)
  induction bs generalizing c fuel with
  | nil =>
    simp only [Scan.procedure, scanPrefixes, readByte_of_nil hs hb]
    exact congrArg _ (cut_eq hc _)
  | cons b bs ih =>
    have hr := readByte_of_cons hs hb .opcode
    unfold Scan.procedure Scan.answer
    cases hp : applyPrefix b c.ps with
    | none =>
      simp only [scanPrefixes, hr, hp]
      exact afterPrefixes_eq hs hc t hb
    | some ps =>
      rw [List.length_cons] at hf
      obtain ⟨fuel, rfl⟩ := Nat.exists_eq_succ_of_ne_zero (show fuel ≠ 0 by omega)
      rw [scanPrefixes]
      simp only [hr, hp]
      exact ih (c := { c with ps := ps, cur := c.cur + 1 }) hc (hs.bytes_of_cons hb) fuel (by omega)

end FromScan

/-- The response of R240 is given by the bytes from the offset on. -/
theorem decodeRequest_eq (p : Params) (t : OpcodeTable) (regs : RegisterTable) {r : Request} (hw : r.view.wf = true) :
    decodeRequest p t regs r = toResponse ((Scan.start regs r).answer t (r.bytesAt p r.offset)) := by
  have hs : Source.Canonical ⟨r.view, viewLimit p r, r.offset⟩ := ⟨hw, viewLimit_le p r⟩
  have hlen := hs.length_bytes r.offset
  have hsteps : decodeSteps ⟨r.view, viewLimit p r, r.offset⟩ t regs r.is32 =
      (Scan.start regs r).answer t (r.bytesAt p r.offset) :=
    procedure_eq hs (c := Scan.start regs r) rfl t rfl (Nat.lt_succ_of_le hlen.le)
  rw [decodeRequest, hsteps]
  cases (Scan.start regs r).answer t (r.bytesAt p r.offset) <;> rfl

end Sys2Proof.Machine
end

section
/-!
PROOFS of the family 43_decoder.md, third part. The bytes of an instruction (`Encodes`): a request gives an
Instruction exactly where its bytes begin with the bytes of one, so neither its offset nor any byte after counts.
-/

namespace Sys2Proof.Machine

/-! ## The row at a key -/

/-- The fields have the shape of the final descriptor that the table has at the key and slot, without an Fpu spec. -/
structure IsRow (t : OpcodeTable) (a : Attrs) (k : Key) (slot : Option (BitVec 3)) (d : OpcodeDescriptor)
    (f : Fields) : Prop where
  descriptor : t.descriptor? k slot = some d
  noFpu : d.specs.any Spec.isFpu = false
  slotMatches : SlotMatches slot f
  fieldsFit : FieldsFit a slot.isSome d f

namespace Reading

variable {c : Reading} {t : OpcodeTable} {slot : Option (BitVec 3)} {d : OpcodeDescriptor} {f : Fields}
  {bs rest : List Byte} {ins : Instruction}

theorem answer_of_final (hf : Final t c.key slot d bs) : c.answer t bs = c.descriptorAnswer slot.isSome d bs := by
  rcases hf with ⟨rfl, hf⟩ | ⟨slots, b, more, rfl, rfl, hf, hd⟩
  · simp only [answer, hf]
    rfl
  · simp only [answer, hf, Option.join_eq_some_iff.2 hd]
    rfl

theorem final_of_answer_ok (h : c.answer t bs = .ok ins) :
    ∃ slot d, Final t c.key slot d bs ∧ c.descriptorAnswer slot.isSome d bs = .ok ins := by
  unfold answer at h
  split at h
  · cases h
  · exact ⟨none, _, .inl ⟨rfl, ‹_›⟩, h⟩
  · split at h
    · cases h
    · split at h
      · cases h
      · exact ⟨some _, _, .inr ⟨_, _, _, rfl, rfl, ‹_›, Option.join_eq_some_iff.1 ‹_›⟩, h⟩

theorem answer_of_isRow (hr : IsRow t c.attrs c.key slot d f) (rest : List Byte) :
    c.answer t (f.bytes ++ rest) = .ok (c.instruction d f) := by
  rw [answer_of_final (final_of_descriptor hr.descriptor hr.slotMatches rest), descriptorAnswer,
    if_neg (by simp [hr.noFpu]), readFields_bytes hr.fieldsFit]
  rfl

theorem isRow_of_answer_ok (h : c.answer t bs = .ok ins) :
    ∃ slot d f, IsRow t c.attrs c.key slot d f ∧ f.bytes <+: bs ∧ ins = c.instruction d f := by
  obtain ⟨slot, d, hf, h⟩ := final_of_answer_ok h
  unfold descriptorAnswer at h
  split at h
  · cases h
  · rename_i hx
    cases hr : readFields c.attrs c.key slot.isSome d 1 bs with
    | error e =>
      rw [hr] at h
      cases h
    | ok x =>
      obtain ⟨f, rest⟩ := x
      obtain ⟨hw, rfl⟩ := readFields_ok hr
      rw [hr] at h
      cases h
      exact ⟨slot, d, f, ⟨hf.descriptor?, by simpa using hx, hf.slotMatches hw, hw⟩, List.prefix_append .., rfl⟩

end Reading

/-! ## The scan before it -/

/-- A byte that is neither a prefix nor the escape is an opcode of the one-byte map (R149). -/
theorem opcode_of_applyPrefix_none {b : Byte} {ps : PrefixState} (hp : applyPrefix b ps = none) (he : b ≠ 0x0F#8) :
    Opcode (.one b) := by
  rintro _ ⟨⟩
  cases hi : scannerRow? b with
  | none => rfl
  | some i =>
    obtain ⟨-, ⟨g, hg, -⟩ | ⟨rfl, -⟩⟩ := scannerRow_cases hi
    · cases (hg ps).symm.trans hp
    · exact absurd rfl he

namespace Scan

variable {c : Scan} {t : OpcodeTable} {bs : List Byte} {ins : Instruction}

/-- A prefix run only moves the scan on. -/
theorem answer_append {pre : List Byte} {ps : PrefixState} (h : prefixRun pre c.ps = some ps) (bs : List Byte) :
    c.answer t (pre ++ bs) = { c with ps := ps, cur := c.cur + pre.length : Scan }.answer t bs := by
  induction pre generalizing c with
  | nil =>
    cases h
    rfl
  | cons b pre ih =>
    obtain ⟨ps', hb, h⟩ := Option.bind_eq_some_iff.1 h
    rw [List.cons_append, answer, hb]
    refine (ih (c := { c with ps := ps', cur := c.cur + 1 }) h).trans ?_
    rw [List.length_cons, Nat.add_assoc, Nat.add_comm 1]

theorem answer_key {k : Key} (hk : Opcode k) (bs : List Byte) :
    c.answer t (k.bytes ++ bs) = (c.reading k).answer t bs := by
  cases k with
  | one b =>
    have hb := scannerRow_none.1 (hk b rfl)
    have he : b ≠ 0x0F#8 := fun he => hb (he ▸ by decide)
    rw [Key.bytes, List.singleton_append, answer, applyPrefix_none hb]
    exact if_neg he
  | two b => rfl

theorem key_of_answer_ok (h : c.answer t bs = .ok ins) :
    ∃ pre ps k rest, prefixRun pre c.ps = some ps ∧ Opcode k ∧ bs = pre ++ (k.bytes ++ rest) ∧
      ({ c with ps := ps, cur := c.cur + pre.length : Scan }.reading k).answer t rest = .ok ins := by
  induction bs generalizing c with
  | nil => cases h
  | cons b bs ih =>
    unfold answer at h
    split at h
    · rename_i ps hb
      obtain ⟨pre, ps', k, rest, hp, hk, rfl, hans⟩ := ih h
      refine ⟨b :: pre, ps', k, rest, by rw [prefixRun, hb]; exact hp, hk, rfl, ?_⟩
      rw [List.length_cons, Nat.add_comm pre.length, ← Nat.add_assoc]
      exact hans
    · rename_i hb
      unfold opcodeAnswer at h
      split at h
      · rename_i he
        split at h
        · cases h
        · exact ⟨[], c.ps, .two _, _, rfl, nofun, by rw [he]; rfl, h⟩
      · rename_i he
        exact ⟨[], c.ps, .one b, bs, rfl, opcode_of_applyPrefix_none hb he, rfl, h⟩

end Scan

/-! ## The bytes of an instruction -/

/-- The bytes of an instruction, a prefix run, a key and the fields of a row (R90), with the Instruction they are. -/
inductive Encodes (t : OpcodeTable) (regs : RegisterTable) (is32 : Bool) : List Byte → Instruction → Prop
  | intro (pre : List Byte) (ps : PrefixState) (k : Key) (slot : Option (BitVec 3)) (d : OpcodeDescriptor) (f : Fields)
      (hp : prefixRun pre PrefixState.start = some ps) (hk : Opcode k)
      (hr : IsRow t (effectiveAttrs is32 ps) k slot d f) :
      Encodes t regs is32 (pre ++ (k.bytes ++ f.bytes))
        ((Scan.reading ⟨0, is32, regs, ps, pre.length⟩ k).instruction d f)

variable {t : OpcodeTable} {regs : RegisterTable}

/-- An Instruction is `length` bytes long (R244). -/
theorem Encodes.length {is32 : Bool} {bytes : List Byte} {ins : Instruction} (h : Encodes t regs is32 bytes ins) :
    ins.length = bytes.length := by
  obtain ⟨pre, ps, k, slot, d, f, hp, hk, hr⟩ := h
  rw [List.length_append, List.length_append, Fields.length_bytes]
  cases k with
  | one b =>
    change pre.length + 1 + f.size - 0 = pre.length + (1 + f.size)
    omega
  | two b =>
    change pre.length + 1 + 1 + f.size - 0 = pre.length + (2 + f.size)
    omega

/-- The offset of a request is no part of its Instruction. -/
theorem Scan.instruction_eq (r : Request) (ps : PrefixState) (n : Nat) (k : Key) (d : OpcodeDescriptor) (f : Fields) :
    ({ Scan.start regs r with ps := ps, cur := r.offset + n : Scan }.reading k).instruction d f =
      (Scan.reading ⟨0, r.is32, regs, ps, n⟩ k).instruction d f := by
  cases k <;>
    simp only [Reading.instruction, Scan.reading, Scan.start, Nat.add_assoc, Nat.add_sub_cancel_left, Nat.sub_zero] <;>
    rfl

/-- A request gives an Instruction exactly where its bytes begin with those of one. -/
theorem answer_ok_iff {r : Request} {bs : List Byte} {ins : Instruction} :
    (Scan.start regs r).answer t bs = .ok ins ↔ ∃ bytes, Encodes t regs r.is32 bytes ins ∧ bytes <+: bs := by
  constructor
  · intro h
    obtain ⟨pre, ps, k, rest, hp, hk, rfl, hans⟩ := Scan.key_of_answer_ok h
    obtain ⟨slot, d, f, hr, hf, rfl⟩ := Reading.isRow_of_answer_ok hans
    refine ⟨pre ++ (k.bytes ++ f.bytes), ?_, by simpa [List.prefix_append_right_inj] using hf⟩
    refine (Scan.instruction_eq r ps pre.length k d f) ▸ ?_
    exact .intro pre ps k slot d f hp hk hr
  · rintro ⟨_, ⟨pre, ps, k, slot, d, f, hp, hk, hr⟩, rest, rfl⟩
    rw [List.append_assoc, List.append_assoc, Scan.answer_append hp, Scan.answer_key hk, ← Scan.instruction_eq]
    exact Reading.answer_of_isRow hr rest

theorem decodeRequest_ok_iff {p : Params} {r : Request} (hw : r.view.wf = true) {ins : Instruction} :
    decodeRequest p t regs r = .ok ins ↔
      ∃ bytes, Encodes t regs r.is32 bytes ins ∧ bytes <+: r.bytesAt p r.offset := by
  rw [decodeRequest_eq p t regs hw, ← answer_ok_iff]
  cases (Scan.start regs r).answer t (r.bytesAt p r.offset) <;> simp [toResponse]

/-! ## Bytes before and after -/

theorem Memory.byteAt_eq_none {m : Memory} (hw : m.wf = true) {q : Nat} (h : m.length ≤ q) : m.byteAt q = none := by
  obtain ⟨bs, rfl⟩ : ∃ bs, m = Memory.ofBytes bs := ⟨_, Memory.eq_ofBytes hw⟩
  rw [Memory.length_ofBytes] at h
  rw [Memory.byteAt_ofBytes, List.getElem?_eq_none h]

/-- The bytes of a request from its offset on, as far as MAX_INSTR_LEN lets it read (R906). -/
theorem Request.getElem?_bytesAt {r : Request} (hw : r.view.wf = true) (p : Params) (i : Nat) :
    (r.bytesAt p r.offset)[i]? =
      if ∀ n ∈ p.maxInstrLen, i < n then r.view.byteAt (r.offset + i) else none := by
  have hlim : r.offset + i < viewLimit p r ↔ r.offset + i < r.view.length ∧ ∀ n ∈ p.maxInstrLen, i < n := by
    unfold viewLimit
    cases p.maxInstrLen <;> simp
  rw [Request.bytesAt, Memory.getElem?_bytesFrom hw]
  by_cases hlen : r.offset + i < r.view.length
  · simp only [hlim, hlen, true_and]
  · rw [if_neg (fun h => hlen (hlim.1 h).1), Memory.byteAt_eq_none hw (Nat.le_of_not_lt hlen), ite_self]

/-- Settles O47: the bytes from the offset on are the same, and nothing else of the view plays a part. -/
theorem responseDependsOnTheSuffix : Obligations.ResponseDependsOnTheSuffix := by
  intro p t regs r r' hw hw' h32 hb
  have hbytes : r.bytesAt p r.offset = r'.bytesAt p r'.offset := by
    refine List.ext_getElem? fun i => ?_
    rw [Request.getElem?_bytesAt hw, Request.getElem?_bytesAt hw', hb]
  refine ⟨fun ho => ?_, fun ins h => ?_⟩
  · rw [decodeRequest_eq p t regs hw, decodeRequest_eq p t regs hw', hbytes, Scan.start, ho, h32]
    rfl
  · rw [decodeRequest_ok_iff hw, hbytes, h32] at h
    exact (decodeRequest_ok_iff hw').2 h

/-- Settles O48: the bytes of the instruction stand in the other view too, and are read there. -/
theorem bytesAfterAreIrrelevant : Obligations.BytesAfterAreIrrelevant := by
  intro p p' t regs r r' ins hw hw' ho h32 h hlim hb
  obtain ⟨bytes, he, hpre⟩ := (decodeRequest_ok_iff hw).1 h
  refine (decodeRequest_ok_iff hw').2 ⟨bytes, h32 ▸ he, ?_⟩
  rw [List.prefix_iff_getElem?] at hpre ⊢
  intro i hi
  have hlt : i < ins.length := he.length ▸ hi
  have hget := hpre i hi
  rw [Request.bytesAt, Memory.getElem?_bytesFrom hw] at hget
  obtain ⟨-, hget⟩ := Option.ite_none_right_eq_some.1 hget
  rw [Request.bytesAt, Memory.getElem?_bytesFrom hw', ← ho, if_pos (by omega), ← hb _ (by omega) (by omega), hget]

end Sys2Proof.Machine
end

section
/-!
PROOFS of the family 43_decoder.md, fourth part. What a step answers at a key is what the bytes give
(`Served.response_eq`), so the steps of a request give the response of R240; and what an Instruction consists of
(`AnsweredRow`): its length and its operands.
-/

namespace Sys2Proof.Machine

variable {s t : State} {l : Latches}

/-! ## A step at a key -/

/-- The key `k` read by a request with latches `l`. -/
def Latches.reading (l : Latches) (s : State) (k : Key) : Reading :=
  ⟨l.req.offset, l.opcodeAt, l.cur, s.registerTable, l.attrs, l.ps, k⟩

theorem Latches.answered_instruction (s : State) (l : Latches) (k : Key) (d : OpcodeDescriptor) (f : Fields) :
    (l.answered s k d f).instruction d = (l.reading s k).instruction d f := by
  have hm : (f.modrm.map ModRM.toByte).map ModRM.ofByte = f.modrm := by cases f.modrm <;> simp
  have hops : (l.answered s k d f).ops = resolveAll ((l.reading s k).ctx d f) d.specs f.trailing := by
    change resolveAll ⟨_, _, _, _, _, (f.modrm.map ModRM.toByte).map ModRM.ofByte, _⟩ _ _ = _
    rw [hm]
    rfl
  rw [Latches.instruction, hops]
  rfl

/-- An S-class spec reads the ModRM byte. -/
theorem needsModRM_of_segmentMissing {d : OpcodeDescriptor} {m : ModRM} (h : segmentMissing d m = true) (g : Bool) :
    needsModRM g d = true := by
  obtain ⟨sp, hsp, hS⟩ := List.any_eq_true.1 (Bool.and_eq_true_iff.1 h).1
  refine Bool.or_eq_true_iff.2 (.inr (List.any_eq_true.2 ⟨sp, hsp, ?_⟩))
  cases sp with
  | S => rfl
  | _ => cases hS

/-- At a key a step answers what the bytes after it give. -/
theorem Served.response_eq {k : Key} {rest : List Byte} (h : Served s l t) (hk : KeyAt s l k rest) :
    t.response = some (toResponse ((l.reading s k).answer s.opcodeTable rest)) := by
  obtain ⟨hfetch, hop⟩ := keyAt_fetch hk
  have hfinal : ∀ {slot d}, Final s.opcodeTable k slot d rest →
      (l.reading s k).answer s.opcodeTable rest = (l.reading s k).descriptorAnswer slot.isSome d rest := fun hd =>
    Reading.answer_of_final hd
  cases h with
  | ofPrefix b rest' ps ho hf hp =>
    cases hfetch.symm.trans hf
    rw [applyPrefix_none (hop ho)] at hp
    cases hp
  | ofEscape rest' ho hf =>
    rw [hfetch] at hf
    exact absurd ((List.cons.inj hf).1 ▸ by decide : k.last ∈ scannerBytes) (hop ho)
  | ofEmpty hf => cases hfetch.symm.trans hf
  | ofNoEntry k' rest' hk' hn =>
    obtain ⟨rfl, rfl⟩ := keyAt_unique hk hk'
    simp only [Reading.answer, Latches.reading, hn]
    rfl
  | ofGroupCut k' slots hk' hg =>
    obtain ⟨rfl, rfl⟩ := keyAt_unique hk hk'
    simp only [Reading.answer, Latches.reading, hg]
    rfl
  | ofEmptySlot k' slots b rest' hk' hg hj =>
    obtain ⟨rfl, rfl⟩ := keyAt_unique hk hk'
    simp only [Reading.answer, Latches.reading, hg, hj]
    rfl
  | ofUnsupported k' slot d rest' hk' hd hx =>
    obtain ⟨rfl, rfl⟩ := keyAt_unique hk hk'
    rw [hfinal hd, Reading.descriptorAnswer, if_pos hx]
    rfl
  | ofNoSegment k' slot d b rest' hk' hd hx hm =>
    obtain ⟨rfl, rfl⟩ := keyAt_unique hk hk'
    have hr : readFields (l.reading s k).attrs (l.reading s k).key slot.isSome d 1 _ = _ :=
      readFields_noSegment (more := rest') (needsModRM_of_segmentMissing hm _) hm
    rw [hfinal hd, Reading.descriptorAnswer, if_neg (by simp [hx]), hr]
    rfl
  | ofCut k' slot d rest' field p bytes hk' hd hx hc hr =>
    obtain ⟨rfl, rfl⟩ := keyAt_unique hk hk'
    have hr' : readFields (l.reading s k).attrs (l.reading s k).key slot.isSome d 1 rest = _ := hr
    rw [hfinal hd, Reading.descriptorAnswer, if_neg (by simp [hx]), hr']
    rfl
  | ofRow k' slot d f rest' hk' hd hx hs hw =>
    obtain ⟨rfl, rfl⟩ := keyAt_unique hk hk'
    have hr : readFields (l.reading s k).attrs (l.reading s k).key slot.isSome d 1 _ = _ := readFields_bytes hw k 1 rest'
    rw [hfinal hd, Reading.descriptorAnswer, if_neg (by simp [hx]), hr]
    exact congrArg (some ∘ Response.ok) (l.answered_instruction s k d f)

/-! ## The steps of a request -/

/-- The prefix scan of a request with latches `l`. -/
def Latches.scan (l : Latches) (s : State) : Scan := ⟨l.req.offset, l.req.is32, s.registerTable, l.ps, l.cur⟩

/-- The latches after a prefix byte that leaves `ps` (R140). -/
def Latches.afterPrefix (l : Latches) (ps : PrefixState) : Latches := { l with ps := ps, cur := l.cur + 1 }

/-- The latches after the escape (R161). -/
def Latches.afterEscape (l : Latches) : Latches := { l.endScan with cur := l.cur + 1 }

def State.withLatches (s : State) (l : Latches) : State := { s with latches := some l }

theorem Serving.withLatches {l' : Latches} (hv : Serving s l) (hr : l'.req = l.req) (hs : l'.Scanning) :
    Serving (s.withLatches l') l' :=
  ⟨hv.initialized, hv.registers, hr ▸ hv.request, hv.response, rfl, hs⟩

/-- At the end of the scan the key is read at the effective widths, its first byte at the cursor. -/
theorem Latches.reading_one (hs : l.Scanning) (ho : l.opcAt = none) (s : State) (b : Byte) :
    l.reading s (.one b) = (l.scan s).reading (.one b) := by
  rw [Latches.reading, Latches.opcodeAt, ho, hs.attrs]
  rfl

theorem Latches.reading_two (hs : l.Scanning) (ho : l.opcAt = none) (s : State) (b : Byte) :
    l.afterEscape.reading s (.two b) = (l.scan s).reading (.two b) := by
  change Reading.mk _ l.opcodeAt _ _ l.attrs _ _ = _
  rw [Latches.opcodeAt, ho, hs.attrs]
  rfl

/-- Within `n` steps the machine gives the response `p`, with the request still at its port. -/
def Responds (s : State) (n : Nat) (p : Response) : Prop :=
  ∃ m t, m ≤ n ∧ Host.Core.run Sys2Proof.core m s = .next t ∧ t.request = s.request ∧ t.response = some p

theorem run_succ (h : step s = .next t) (n : Nat) :
    Host.Core.run Sys2Proof.core (n + 1) s = Host.Core.run Sys2Proof.core n t := by
  have hcore : Sys2Proof.core.step s = .next t := h
  simp only [Host.Core.run, hcore]

theorem Responds.step {n : Nat} {p : Response} (h : step s = .next t) (hq : t.request = s.request)
    (hr : Responds t n p) : Responds s (n + 1) p := by
  obtain ⟨m, u, hm, hrun, hu, hp⟩ := hr
  exact ⟨m + 1, u, Nat.succ_le_succ hm, (run_succ h m).trans hrun, hu.trans hq, hp⟩

theorem Responds.last {p : Response} (h : Machine.step s = .next t) (hq : t.request = s.request)
    (hp : t.response = some p) : Responds s 1 p :=
  .step h hq ⟨0, t, Nat.le_refl _, rfl, rfl, hp⟩

theorem Responds.mono {n m : Nat} {p : Response} (h : Responds s n p) (hnm : n ≤ m) : Responds s m p := by
  obtain ⟨k, u, hk, hrest⟩ := h
  exact ⟨k, u, hk.trans hnm, hrest⟩

/-- One byte further in the request the fetch is one byte shorter. -/
theorem State.fetch_of_cons {l' : Latches} (hw : l.req.view.wf = true) (hr : l'.req = l.req)
    (hc : l'.cur = l.cur + 1) {b : Byte} {bs : List Byte} (hf : s.fetch l = b :: bs) :
    (s.withLatches l').fetch l' = bs := by
  rw [State.fetch] at hf ⊢
  rw [hr, hc, Memory.bytesFrom_add hw]
  exact congrArg (List.drop 1) hf

/-- The escape is consumed, and ends the scan (R151). -/
theorem step_of_escape (hv : Serving s l) (ho : l.opcAt = none) {rest : List Byte} (hf : s.fetch l = 0x0F#8 :: rest) :
    step s = .next (s.withLatches l.afterEscape) := by
  have hd : s.decodeAt l = .ok (.row .escape0F, rest) := by
    rw [State.decodeAt, Latches.opMap_one.2 ho, hf]
    exact decodeRow_scanner rfl rest
  exact (step_of_decode_row hv.initialized hv.response hv.latches hd).trans (serveEscape_next hv.latches)

/-- Without a byte at the cursor the request is cut off (R902). -/
theorem responds_of_nil (hv : Serving s l) (hf : s.fetch l = []) :
    Responds s 1 (.err ⟨.truncatedInstruction, l.req.offset, l.cur, .opcode, []⟩) :=
  .last (emptyFetchTruncates s l hv hf).1 rfl rfl

theorem responds_of_keyAt (hv : Serving s l) {k : Key} {rest : List Byte} (hk : KeyAt s l k rest) :
    Responds s 1 (toResponse ((l.reading s k).answer s.opcodeTable rest)) := by
  obtain ⟨t, h, hserved⟩ := step_served hv
  exact .last h (step_frame hv.initialized hv.response hv.latches h).request (hserved.response_eq hk)

/-- After the prefixes there is one step more, or two with the escape. -/
theorem responds_of_opcode (hv : Serving s l) (hw : l.req.view.wf = true) (ho : l.opcAt = none) {b : Byte}
    {bs : List Byte} (hf : s.fetch l = b :: bs) (hp : applyPrefix b l.ps = none) :
    Responds s (bs.length + 2) (toResponse ((l.scan s).opcodeAnswer s.opcodeTable b bs)) := by
  unfold Scan.opcodeAnswer
  by_cases he : b = 0x0F#8
  · subst he
    rw [if_pos rfl]
    have hstep := step_of_escape hv ho hf
    have hv' := hv.withLatches (l' := l.afterEscape) rfl (hv.scanning.afterEscape ho)
    have hf' := State.fetch_of_cons (l' := l.afterEscape) hw rfl rfl hf
    cases bs with
    | nil => exact .step hstep rfl (responds_of_nil hv' hf')
    | cons b1 rest =>
      have hr := responds_of_keyAt hv' (k := .two b1) ⟨rfl, hf'⟩
      rw [Latches.reading_two hv.scanning ho] at hr
      exact (Responds.step hstep rfl hr).mono (by simp)
  · rw [if_neg he, ← Latches.reading_one hv.scanning ho]
    have hb := scannerRow_none.1 (opcode_of_applyPrefix_none hp he b rfl)
    exact (responds_of_keyAt hv (k := .one b) ⟨ho, hb, hf⟩).mono (by omega)

/-- In the prefix scan the machine answers what the bytes from the cursor on give: one step a prefix byte. -/
theorem responds_of_scan (hv : Serving s l) (hw : l.req.view.wf = true) (ho : l.opcAt = none) {bs : List Byte}
    (hf : s.fetch l = bs) : Responds s (bs.length + 1) (toResponse ((l.scan s).answer s.opcodeTable bs)) := by
  induction bs generalizing s l with
  | nil => exact responds_of_nil hv hf
  | cons b bs ih =>
    unfold Scan.answer
    cases hp : applyPrefix b l.ps with
    | none =>
      have hp' : applyPrefix b (l.scan s).ps = none := hp
      rw [hp']
      exact responds_of_opcode hv hw ho hf hp
    | some ps =>
      have hp' : applyPrefix b (l.scan s).ps = some ps := hp
      rw [hp']
      have hv' := hv.withLatches (l' := l.afterPrefix ps) rfl (hv.scanning.afterPrefix ho ps)
      exact .step (step_of_applyPrefix hv ho hf hp) rfl
        (ih hv' hw ho (State.fetch_of_cons (l' := l.afterPrefix ps) hw rfl rfl hf))

/-- Settles O45: one step accepts the request, and the scan answers it. -/
theorem stepsFollowTheProcedure : Obligations.StepsFollowTheProcedure := by
  intro s r hinv hi hq hp hl
  have hw := hinv.view r hq
  have hv : Serving (s.accept r) (Latches.start r) := (hinv.accept hi hp hq).serving hi hp rfl
  have hr := Responds.step (step_accept hi hp hl hq) rfl (responds_of_scan hv hw rfl rfl)
  have hlen : ((s.accept r).fetch (Latches.start r)).length = viewLimit s.params r - r.offset := State.length_fetch hw
  have hlim := viewLimit_le s.params r
  rw [decodeRequest_eq s.params s.opcodeTable s.registerTable hw]
  obtain ⟨n, t, hn, hrun, hreq, hresp⟩ := hr
  exact ⟨n, t, by omega, hrun, hreq.trans hq, hresp⟩

/-! ## The row of an Instruction -/

/-- The row with key `k`, descriptor `d` and fields `f` was decoded as `x` and answered with `ins`. -/
structure AnsweredRow (s : State) (l : Latches) (x : Decoded) (t : State) (ins : Instruction) (k : Key)
    (d : OpcodeDescriptor) (f : Fields) : Prop where
  opMap : k.opMap = l.opMap
  keyFields : x.keyFields = (k, f)
  descriptor : x.descriptor = some d
  latches : t.latches = some (l.answered s k d f)
  instruction : ins = (l.reading s k).instruction d f

theorem KeyAt.opMap {k : Key} {rest : List Byte} (h : KeyAt s l k rest) : k.opMap = l.opMap := by
  cases k with
  | one b => exact (Latches.opMap_one.2 h.1).symm
  | two b => exact (if_pos h.1).symm

theorem namesRow_keyFields {k : Key} {slot : Option (BitVec 3)} {d : OpcodeDescriptor} {f : Fields} {x : Decoded}
    (h : NamesRow k slot d f x) : x.keyFields = (k, f) := by
  cases h with
  | row i hp => rw [Decoded.keyFields, hp]
  | configured => rfl

/-- Only an opcode row with its fields whole is answered with an Instruction, and it is the one decoded. -/
theorem exists_answeredRow (hv : Serving s l) {x : Decoded} {rest : List Byte} (hd : s.decodeAt l = .ok (x, rest))
    (h : step s = .next t) {ins : Instruction} (ht : t.response = some (.ok ins)) :
    ∃ k d f, AnsweredRow s l x t ins k d f := by
  obtain ⟨t', h', hserved⟩ := step_served hv
  cases h.symm.trans h'
  cases hserved with
  | ofPrefix | ofEscape => cases hv.response.symm.trans ht
  | ofEmpty | ofNoEntry | ofGroupCut | ofEmptySlot | ofUnsupported | ofNoSegment | ofCut => cases ht
  | ofRow k slot d f rest' hk hf hx hs hw =>
    have hdec : s.decodeAt l = .ok (nameRow k slot d f, rest') := by
      rw [decodeAt_of_final hk hf, decodeDescriptor, if_neg (by simp [hx]), readFields_bytes hw]
    cases hd.symm.trans hdec
    cases ht
    have hn : NamesRow k slot d f _ := nameRow_namesRow fun _ _ => hs
    exact ⟨k, d, f, hk.opMap, namesRow_keyFields hn, hn.descriptor, rfl, l.answered_instruction s k d f⟩

/-! ## Its length -/

/-- The opcode bytes of the key end at the cursor (R161). -/
theorem Latches.Scanning.opcodeAt_add_length (hs : l.Scanning) {k : Key} (hk : k.opMap = l.opMap) :
    l.opcodeAt + k.bytes.length = l.cur + 1 := by
  cases k with
  | one b =>
    rw [Latches.opcodeAt, Latches.opMap_one.1 hk.symm]
    rfl
  | two b =>
    cases ho : l.opcAt with
    | none => cases hk.trans (Latches.opMap_one.2 ho)
    | some o =>
      rw [Latches.opcodeAt, ho, (hs.escape o ho).1]
      rfl

theorem modRMBlock_size_le (f : Fields) : f.modrm.toList.length + f.sib.toList.length + f.disp.size ≤ 6 := by
  have hopt : ∀ {α : Type} (o : Option α), o.toList.length ≤ 1 := fun o => by cases o <;> simp
  have hm := hopt f.modrm
  have hsib := hopt f.sib
  have hd := f.disp.size_cases
  omega

/-- Settles O42: the cursor is past the key and the fields, and the key starts after the prefixes. -/
theorem lengthParts : Obligations.LengthParts := by
  intro s t l x rest ins hv hd h ht
  obtain ⟨k, d, f, hrow⟩ := exists_answeredRow hv hd h ht
  have hstart := hv.scanning.start
  have hkey := hv.scanning.opcodeAt_add_length hrow.opMap
  have hlen : ins.length = l.cur + 1 + f.size - l.req.offset := by rw [hrow.instruction]; rfl
  rw [hrow.keyFields]
  refine ⟨?_, modRMBlock_size_le f, _, hrow.latches, ?_⟩
  · rw [hlen, Fields.size]
    simp only
    omega
  · rw [Latches.answered_cur, hlen]
    omega

/-! ## Its operands -/

theorem length_resolveAll (c : Ctx) (sps : List Spec) (fs : List Field) :
    (resolveAll c sps fs).length = sps.length := by
  induction sps generalizing fs with
  | nil => rfl
  | cons sp sps ih =>
    unfold resolveAll
    split <;> rw [List.length_cons, ih, List.length_cons]

/-- The trailing field of spec `i`, the fields belonging to the trailing specs in declared order (R192). -/
def ownField (sps : List Spec) (fs : List Field) (i : Nat) (sp : Spec) : Field :=
  if trails sp then fs.getD ((sps.take i).countP trails) .absent else .absent

/-- Operand `i` is spec `i` resolved with its own field. -/
theorem getElem?_resolveAll (c : Ctx) (sps : List Spec) (fs : List Field) (i : Nat) :
    (resolveAll c sps fs)[i]? = sps[i]?.map fun sp => resolve c sp (ownField sps fs i sp) := by
  induction sps generalizing fs i with
  | nil => rfl
  | cons sp sps ih =>
    cases htr : trails sp with
    | true =>
      cases i with
      | zero => cases fs <;> simp [resolveAll, ownField, htr]
      | succ i => cases fs <;> simp [resolveAll, ownField, htr, ih]
    | false =>
      cases i with
      | zero => simp [resolveAll, ownField, htr]
      | succ i => simp [resolveAll, ownField, htr, ih]

theorem isSome_operand_iff (c : Ctx) (sps : List Spec) (fs : List Field) (i : Nat) :
    (resolveAll c sps fs)[i]?.isSome = true ↔ i + 1 ≤ sps.length := by
  rw [isSome_getElem?, length_resolveAll, Nat.lt_iff_add_one_le]

/-- The context of a row is at the effective widths, with the row's memory part. -/
theorem Serving.reading_ctx (hv : Serving s l) (k : Key) (d : OpcodeDescriptor) (f : Fields) :
    (l.reading s k).ctx d f =
      ⟨RegisterTable.fixed, effectiveWidth l.req.is32 l.ps.opsz, effectiveWidth l.req.is32 l.ps.adsz, l.ps.seg, k,
        f.modrm, rowMemory l d.specs f⟩ := by
  rw [Reading.ctx, Latches.reading, hv.registers, hv.scanning.attrs, ← memoryLatch_eq l d.name d.specs f]
  rfl

/-- Settles O36: an Instruction has the operands of `resolveAll`, one for each spec. -/
theorem operandCount : Obligations.OperandCount := by
  refine ⟨fun s t ins h hp ht => ?_, fun s t l x rest ins hv hd h ht => ?_⟩
  · obtain ⟨k, d, f, hrow⟩ := step_instruction h hp ht
    obtain ⟨l, -, rfl⟩ := serveRow_instruction hrow ht
    exact ⟨isSome_operand_iff _ _ _ 0, isSome_operand_iff _ _ _ 1, isSome_operand_iff _ _ _ 2⟩
  · obtain ⟨k, d, f, hrow⟩ := exists_answeredRow hv hd h ht
    rw [hrow.keyFields, hrow.descriptor, hrow.instruction]
    refine ⟨rfl, fun i sp hi hsp => ?_⟩
    have hsp : d.specs[i]? = some sp := hsp
    have hops : ∀ ops : List OperandDescriptor, [ops[0]?, ops[1]?, ops[2]?][i]? = some ops[i]? := fun ops => by
      interval_cases i <;> rfl
    refine (hops _).trans (congrArg some ?_)
    rw [getElem?_resolveAll, hsp, Option.map_some, hv.reading_ctx]
    rfl

end Sys2Proof.Machine
end

section
/-!
PROOFS of the family 44_onebyte_00_5F.md. A row with neither an Fpu nor an S operand is answered whatever its
fields are (`Serving.exec_answers`), and every opcode row from 00 to 5F is one (the prefixes and the escape are no rows).
-/

namespace Sys2Proof.Machine

variable {s : State} {l : Latches}

/-! ## A row without an Fpu or an S operand -/

/-- The check of R198 is of S operands alone. -/
theorem segmentMissing_of_not_isS {d : OpcodeDescriptor} (hS : d.specs.any Spec.isS = false) (m : ModRM) :
    segmentMissing d m = false := by
  rw [segmentMissing, hS, Bool.false_and]

/-- The two operands a row can fail at are Fpu (R213) and S (R198); an instruction whose row has neither is
answered, whatever its fields are. -/
theorem Serving.exec_answers (hv : Serving s l) {i : Instr} {k : Key} {name : String} {specs : List Spec}
    {f : Fields} (hrow : exec i s = serveRow k (opcode name specs) f s)
    (hfpu : specs.any Spec.isFpu = false) (hS : specs.any Spec.isS = false) :
    exec i s = .next (answered s l k name specs f) := by
  have hseg : f.modrm.any (segmentMissing (opcode name specs)) = false := by
    cases f.modrm with
    | none => rfl
    | some m => exact segmentMissing_of_not_isS hS m
  rw [hrow, serveRow_answers hv k name specs f hfpu hseg]

/-! ## The rows 00 to 5F -/

/-- Settles O50: each clause is an arm of `exec` that serves a row with neither an Fpu nor an S operand. -/
theorem aluRows : Obligations.AluRows := by
  intro s l hv
  and_intros <;> intros <;> exact hv.exec_answers (hrow := rfl) (hfpu := rfl) (hS := rfl)

/-- Settles O51: as for the ALU rows, none of these has an Fpu or an S operand; the segment register of PUSH and
POP is a fixed one. -/
theorem rows00To5F : Obligations.Rows00To5F := by
  intro s l hv
  and_intros <;> intros <;> exact hv.exec_answers (hrow := rfl) (hfpu := rfl) (hS := rfl)

end Sys2Proof.Machine
end

section
/-!
PROOFS of the family 45_onebyte_60_8F.md. The two MOV rows with an S operand turn on the reg field of their ModRM
block (`Serving.exec_answers_of_reg_lt`, `Serving.exec_fails_of_le_reg`); every other opcode row from 60 to 8F is
answered whatever its fields are (`Serving.exec_answers`).
-/

namespace Sys2Proof.Machine

variable {s : State} {l : Latches}

/-! ## A row with an S operand, 8C and 8E (R198) -/

/-- The check of R198 finds a segment register at every number below 6. -/
theorem segmentMissing_of_reg_lt {m : ModRM} (hr : m.reg.toNat < 6) (d : OpcodeDescriptor) :
    segmentMissing d m = false := by
  have hname : namesSegment m.reg = true := decide_eq_true hr
  rw [segmentMissing, hname, Bool.not_true, Bool.and_false]

/-- With a reg field that names a segment register the S operand is no obstacle: the instruction is answered. -/
theorem Serving.exec_answers_of_reg_lt (hv : Serving s l) {i : Instr} {k : Key} {name : String} {specs : List Spec}
    {reg : BitVec 3} {e : Rm} {fs : List Field}
    (hrow : exec i s = serveRow k (opcode name specs) (.block reg e fs) s)
    (hfpu : specs.any Spec.isFpu = false) (hr : reg.toNat < 6) :
    exec i s = .next (answered s l k name specs (.block reg e fs)) := by
  have hseg : segmentMissing (opcode name specs) ⟨e.mod, reg, e.rm⟩ = false := segmentMissing_of_reg_lt hr _
  rw [hrow, serveRow_answers hv k name specs (.block reg e fs) hfpu hseg]

/-- With reg 6 or 7 an S operand fails the instruction, and the failure records the key and the ModRM byte. -/
theorem Serving.exec_fails_of_le_reg (hv : Serving s l) {i : Instr} {k : Key} {name : String} {specs : List Spec}
    {reg : BitVec 3} {e : Rm} {fs : List Field}
    (hrow : exec i s = serveRow k (opcode name specs) (.block reg e fs) s)
    (hfpu : specs.any Spec.isFpu = false) {t : OpType} (hS : Spec.S t ∈ specs) (hr : 6 ≤ reg.toNat) :
    exec i s = .next (failed s l .invalidOpcode l.opcodeAt .opcode (k.bytes ++ [e.mod ++ reg ++ e.rm])) := by
  have hseg : segmentMissing (opcode name specs) ⟨e.mod, reg, e.rm⟩ = true := segmentMissing_of_S hS hr
  rw [hrow, serveRow_noSegment hv.latches k (opcode name specs) (.block reg e fs) _ hfpu rfl hseg]
  rfl

/-- Settles O22: both rows have a ModRM block with an S operand and no Fpu operand; reg decides which way each
goes, and the rm operand plays no part. -/
theorem segmentRows : Obligations.SegmentRows := by
  intro s l reg e hv
  have h8C : exec (.mov_8C reg e) s =
    serveRow (.one 0x8C#8) (opcode "MOV" [.E .w, .S .w]) (.block reg e []) s := rfl
  have h8E : exec (.mov_8E reg e) s =
    serveRow (.one 0x8E#8) (opcode "MOV" [.S .w, .E .w]) (.block reg e []) s := rfl
  refine ⟨fun hr => ⟨?_, ?_⟩, fun hr => ⟨?_, ?_⟩⟩
  · exact hv.exec_answers_of_reg_lt h8C rfl hr
  · exact hv.exec_answers_of_reg_lt h8E rfl hr
  · exact hv.exec_fails_of_le_reg h8C rfl (.tail _ (.head _)) hr
  · exact hv.exec_fails_of_le_reg h8E rfl (.head _) hr

/-! ## The other rows 60 to 8F -/

/-- Settles O52: each clause is an arm of `exec` that serves a row with neither an Fpu nor an S operand. -/
theorem shortJumpRows : Obligations.ShortJumpRows := by
  intro s l hv
  and_intros <;> intros <;> exact hv.exec_answers (hrow := rfl) (hfpu := rfl) (hS := rfl)

/-- Settles O53: the reg field of a Group 1 row selects its slot and names no segment register, so no value of it
can fail the row. -/
theorem group1Rows : Obligations.Group1Rows := by
  intro s l hv
  and_intros <;> intros <;> exact hv.exec_answers (hrow := rfl) (hfpu := rfl) (hS := rfl)

/-- Settles O54: 8C and 8E left out, no row from 84 to 8F has an S operand, and none has an Fpu one. -/
theorem rows84To8F : Obligations.Rows84To8F := by
  intro s l hv
  and_intros <;> intros <;> exact hv.exec_answers (hrow := rfl) (hfpu := rfl) (hS := rfl)

end Sys2Proof.Machine
end

section
/-!
PROOFS of the family 46_onebyte_90_CF.md. No row from 90 to CF has an Fpu or an S operand, so each is answered
whatever its fields are (`Serving.exec_answers`).
-/

namespace Sys2Proof.Machine

/-- Settles O55: no clause has an operand it can fail at. The segments of the string rows are fixed or come from
the prefixes (R210), and the selector of the far call is an immediate. -/
theorem rows90ToBF : Obligations.Rows90ToBF := by
  intro s l hv
  and_intros <;> intros <;> exact hv.exec_answers (hrow := rfl) (hfpu := rfl) (hS := rfl)

/-- Settles O56: the reg field of a shift or Group 11 row selects its slot, and that of LES and LDS a general
register; the M operand of the latter two is no obstacle at mod 11 either (R107). -/
theorem rowsC0ToCF : Obligations.RowsC0ToCF := by
  intro s l hv
  and_intros <;> intros <;> exact hv.exec_answers (hrow := rfl) (hfpu := rfl) (hS := rfl)

end Sys2Proof.Machine
end

section
/-!
PROOFS of the family 47_onebyte_D0_DF.md. Of the rows from D0 to DF only the escapes D8 to DF have an Fpu operand
and none has an S operand; D6 is unassigned. So each row from D0 to D7 is answered whatever its fields are
(`Serving.exec_answers`).
-/

namespace Sys2Proof.Machine

/-- Settles O57: the reg field of a shift row selects its slot, and its count, 1 or CL, is read from no byte; AAM
and AAD take any base, and XLAT has no operand. -/
theorem rowsD0ToD7 : Obligations.RowsD0ToD7 := by
  intro s l hv
  and_intros <;> intros <;> exact hv.exec_answers (hrow := rfl) (hfpu := rfl) (hS := rfl)

end Sys2Proof.Machine
end

section
/-!
PROOFS of the family 48_onebyte_E0_FF.md. The default table has exactly the keys that are not left out
(`defaultTable_keys`, `find_defaultTable_eq_none_iff`); the failing rows are served by `serveUnassigned` and, for the
x87 escapes, by a row with an Fpu operand; no opcode row from E0 to FF has an Fpu or an S operand.
-/

namespace Sys2Proof

/-! ## The keys of the default table -/

/-- A key has no entry exactly when it is not among the keys of the table (R163). -/
theorem OpcodeTable.find_eq_none_iff {t : OpcodeTable} {k : Key} : t.find k = none ↔ k ∉ t.map Prod.fst := by
  rw [OpcodeTable.find, List.lookup_eq_none_iff]
  simp only [bne_iff_ne, List.mem_map, not_exists, not_and]
  exact forall₂_congr fun e _ => ne_comm

/-- The keys the rules leave without an entry: the unassigned opcodes (R669, R670) and the bytes of the scanner
(R167). -/
def Key.leftOut : Key → Bool
  | .one b => unassignedOne.contains b || Machine.scannerBytes.contains b
  | .two b => isUnassignedTwo b

def allBytes : List Byte := (List.range 256).map (BitVec.ofNat 8)

theorem mem_allBytes (b : Byte) : b ∈ allBytes :=
  List.mem_map.2 ⟨b.toNat, List.mem_range.2 b.isLt, by rw [BitVec.ofNat_toNat, BitVec.setWidth_eq]⟩

/-- Every key, in the order of the table. -/
def allKeys : List Key := allBytes.map Key.one ++ allBytes.map Key.two

theorem mem_allKeys (k : Key) : k ∈ allKeys := by
  cases k with
  | one b => exact List.mem_append_left _ (List.mem_map_of_mem (mem_allBytes b))
  | two b => exact List.mem_append_right _ (List.mem_map_of_mem (mem_allBytes b))

/-- The default table lists every key that is not left out, once and in key order. -/
theorem defaultTable_keys : defaultTable.map Prod.fst = allKeys.filter fun k => !k.leftOut := by
  decide +kernel

theorem find_defaultTable_eq_none_iff {k : Key} : defaultTable.find k = none ↔ k.leftOut = true := by
  rw [OpcodeTable.find_eq_none_iff, defaultTable_keys, List.mem_filter]
  simp [mem_allKeys]

theorem isUnassignedTwo_iff {b : Byte} :
    isUnassignedTwo b = true ↔ ∃ r ∈ unassignedTwoRanges, r.1 ≤ b.toNat ∧ b.toNat ≤ r.2 := by
  simp only [isUnassignedTwo, List.any_eq_true, Bool.and_eq_true, decide_eq_true_iff]

/-- Settles O16: the keys left out are the lists of R669 and of the scanner, and the ranges of R670. -/
theorem unassignedKeys : Obligations.UnassignedKeys := by
  refine ⟨fun b => ?_, fun b => find_defaultTable_eq_none_iff.trans isUnassignedTwo_iff⟩
  rw [find_defaultTable_eq_none_iff, Key.leftOut, Bool.or_eq_true, List.contains_iff_mem, List.contains_iff_mem]
  rfl

end Sys2Proof

namespace Sys2Proof.Machine

/-! ## The rows that fail -/

/-- The register bits of an escape do not overlap its base, so the opcode byte is their sum. -/
theorem opcodeReg_D8 (r : BitVec 3) : opcodeReg 0xD8#8 r = 0xD8#8 + r.setWidth 8 := by
  decide +revert

/-- Settles O15: an unassigned row is a failed lookup of its key, and the row of the escapes has an Fpu operand. -/
theorem failingRows : Obligations.FailingRows := by
  intro s l hl
  refine ⟨fun b => ?_, fun b => ?_, fun r => ?_⟩
  · exact serveUnassigned_next hl (.one b)
  · exact serveUnassigned_next hl (.two b)
  · rw [← opcodeReg_D8]
    exact serveRow_fpu hl (.one (opcodeReg 0xD8#8 r)) (opcode "ESC" [.fpu]) (.plain []) rfl

/-! ## The rows E0 to FF -/

/-- Settles O58: the reg field of a Group 3, 4 or 5 row selects its slot and names no segment register, and the M
operand of the far call and jump is no obstacle at mod 11 either (R107). -/
theorem rowsE0ToFF : Obligations.RowsE0ToFF := by
  intro s l hv
  and_intros <;> intros <;> exact hv.exec_answers (hrow := rfl) (hfpu := rfl) (hS := rfl)

end Sys2Proof.Machine
end

section
/-!
PROOFS of the family 49_twobyte_0F.md. No two-byte row has an Fpu or an S operand, so each is answered whatever its
fields are (`Serving.exec_answers`).
-/

namespace Sys2Proof.Machine

/-- Settles O59: the reg field of a control, debug or test move names its register without the check of R198, and
its mod is no obstacle (R197); that of a Group 6 or 7 row selects its slot. -/
theorem twoByteSystemRows : Obligations.TwoByteSystemRows := by
  intro s l hv
  and_intros <;> intros <;> exact hv.exec_answers (hrow := rfl) (hfpu := rfl) (hS := rfl)

/-- Settles O60: PUSH and POP name FS and GS by a fixed spec, and the far pointer rows name theirs by the mnemonic
alone, so no clause has an S operand; the reg field of a SETcc row is read by no operand. -/
theorem twoByteRows80ToBF : Obligations.TwoByteRows80ToBF := by
  intro s l hv
  and_intros <;> intros <;> exact hv.exec_answers (hrow := rfl) (hfpu := rfl) (hS := rfl)

end Sys2Proof.Machine
end

section
/-!
PROOFS of the family 60_exceptions.md. What a failure records, cause by cause (`FailureRecord`), and which field a row
is cut off in (`KeyAt.step_of_firstCut`); and that MAX_INSTR_LEN cuts the view (`Request.bytesAt_take`).
-/

namespace Sys2Proof.Machine

variable {s t : State} {l : Latches} {k : Key} {rest : List Byte} {d : OpcodeDescriptor}

/-! ## The operands a row can fail at, as the causes name them -/

theorem any_isFpu_eq_true_iff {specs : List Spec} : specs.any Spec.isFpu = true ↔ Spec.fpu ∈ specs := by
  simp only [List.any_eq_true, isFpu_iff, exists_eq_right]

theorem any_isFpu_eq_false_iff {specs : List Spec} : specs.any Spec.isFpu = false ↔ Spec.fpu ∉ specs := by
  rw [← any_isFpu_eq_true_iff, Bool.not_eq_true]

theorem isS_iff {sp : Spec} : sp.isS = true ↔ ∃ ty, sp = .S ty := by
  cases sp <;> simp [Spec.isS]

/-- The check of R198 fails at an S operand whose number is 6 or 7. -/
theorem segmentMissing_iff {m : ModRM} :
    segmentMissing d m = true ↔ (∃ ty, Spec.S ty ∈ d.specs) ∧ 6 ≤ m.reg.toNat := by
  have hany : d.specs.any Spec.isS = true ↔ ∃ ty, Spec.S ty ∈ d.specs := by
    simp only [List.any_eq_true, isS_iff]
    exact ⟨fun ⟨_, h, ty, he⟩ => ⟨ty, he ▸ h⟩, fun ⟨ty, h⟩ => ⟨_, h, ty, rfl⟩⟩
  rw [segmentMissing, Bool.and_eq_true, hany, namesSegment, Bool.not_eq_true', decide_eq_false_iff_not, Nat.not_lt]

/-- A final descriptor stands in a slot exactly where the entry is a group. -/
theorem isGroup_of_final {tbl : OpcodeTable} {slot : Option (BitVec 3)} (h : Final tbl k slot d rest) :
    isGroup tbl k = slot.isSome := by
  rcases h with ⟨rfl, hf⟩ | ⟨slots, b, more, rfl, -, hf, -⟩ <;> rw [isGroup, hf] <;> rfl

/-! ## The bytes a truncation records (R902) -/

/-- Past the key the view holds the bytes after it. -/
theorem KeyAt.bytesAt (hk : KeyAt s l k rest) (hw : l.req.view.wf = true) (p : Nat) :
    l.req.bytesAt s.params (l.cur + 1 + p) = rest.drop p := by
  have hf : l.req.view.bytesFrom l.cur (viewLimit s.params l.req) = k.last :: rest := (keyAt_fetch hk).1
  rw [Request.bytesAt, Nat.add_assoc, Memory.bytesFrom_add hw, hf, Nat.add_comm, List.drop_succ_cons]

/-! ## The field a row is cut off in (R905) -/

/-- The fields of a row are read in order, and what stops them is the first one that is cut off. -/
theorem readFields_truncated {a : Attrs} {g : Bool} {pos q : Nat} {field : FailField} {bytes : List Byte}
    (h : readFields a k g d pos rest = .error (.truncated field q bytes)) :
    ∃ n p, FirstCut (rowFields a g d rest) rest field n p ∧ q = pos + p ∧ bytes = rest.drop p := by
  have hseg : ∀ b more, rest = b :: more → segmentMissing d (ModRM.ofByte b) = false ∨ needsModRM g d = false := by
    rintro b more rfl
    by_contra hne
    simp only [not_or, Bool.not_eq_false] at hne
    cases h.symm.trans (readFields_noSegment hne.2 hne.1)
  have hfollows := readFields_follows (a := a) (k := k) (pos := pos) hseg
  rw [h] at hfollows
  obtain ⟨_, n, p, hcut, he⟩ := hfollows
  cases he
  exact ⟨n, p, hcut, rfl, rfl⟩

/-- Where a field is cut off, reading the fields stops there. -/
theorem readFields_of_firstCut {a : Attrs} {g : Bool} {field : FailField} {n p : Nat} (pos : Nat)
    (hseg : ∀ m more, rest = m :: more → segmentMissing d (ModRM.ofByte m) = false)
    (hcut : FirstCut (rowFields a g d rest) rest field n p) :
    readFields a k g d pos rest = .error (.truncated field (pos + p) (rest.drop p)) := by
  have hfollows := readFields_follows (a := a) (k := k) (g := g) (pos := pos) fun m more h => .inl (hseg m more h)
  cases hr : readFields a k g d pos rest with
  | ok x =>
    rw [hr] at hfollows
    obtain ⟨pre, hpre, hlen⟩ := hfollows
    have hinside := hcut.inside
    rw [← hlen, hpre, List.length_append] at hinside
    omega
  | error e =>
    rw [hr] at hfollows
    obtain ⟨_, _, _, hcut', rfl⟩ := hfollows
    obtain ⟨rfl, -, rfl⟩ := hcut.unique hcut'
    rfl

/-- A row with a field that is cut off fails there, with the part of the field present. -/
theorem KeyAt.step_of_firstCut (hk : KeyAt s l k rest) (hv : Serving s l) {slot : Option (BitVec 3)}
    (hd : Final s.opcodeTable k slot d rest) (hx : d.specs.any Spec.isFpu = false) {field : FailField} {n p : Nat}
    (hseg : ∀ m more, rest = m :: more → segmentMissing d (ModRM.ofByte m) = false)
    (hcut : FirstCut (rowFields l.attrs slot.isSome d rest) rest field n p) :
    step s = .next (failed s l .truncatedInstruction (l.cur + 1 + p) field (rest.drop p)) := by
  have hdec : s.decodeAt l = .error (.truncated field (1 + p) (rest.drop p)) := by
    rw [decodeAt_of_final hk hd, decodeDescriptor, if_neg (by simp [hx]), readFields_of_firstCut 1 hseg hcut]
  rw [step_of_decode_error hv.initialized hv.response hv.latches hdec, Nat.add_assoc]
  rfl

/-! ## What a failure records -/

/-- Why the bytes of an InvalidOpcode are these (R901): a key without an entry, or a key with the byte after it where
that selects an empty slot (R162) or no segment register (R198). -/
def InvalidCause (s : State) (l : Latches) (bytes : List Byte) : Prop :=
  ∃ (k : Key) (rest : List Byte), KeyAt s l k rest ∧
    ((s.opcodeTable.find k = none ∧ bytes = k.bytes) ∨
      ∃ (m : Byte) (more : List Byte), rest = m :: more ∧ bytes = k.bytes ++ [m] ∧
        ((∃ slots, s.opcodeTable.find k = some (.group slots) ∧ slots[(m.extractLsb' 3 3).toNat]?.join = none) ∨
          ∃ d, FinalDescriptor s.opcodeTable k rest d ∧ (∃ ty, Spec.S ty ∈ d.specs) ∧
            6 ≤ (m.extractLsb' 3 3).toNat))

/-- Why the bytes of an UnsupportedAddressingMode are these (R903): the key of a descriptor with an Fpu spec. -/
def UnsupportedCause (s : State) (l : Latches) (bytes : List Byte) : Prop :=
  ∃ (k : Key) (rest : List Byte) (d : OpcodeDescriptor), KeyAt s l k rest ∧
    FinalDescriptor s.opcodeTable k rest d ∧ Spec.fpu ∈ d.specs ∧ bytes = k.bytes

/-- Why a TruncatedInstruction is at this offset and field (R902): no byte at the cursor, no ModRM byte to select a
group's slot, or a field that is the first to be cut off. -/
def TruncatedCause (s : State) (l : Latches) (atOffset : Nat) (field : FailField) : Prop :=
  (s.fetch l = [] ∧ field = .opcode ∧ atOffset = l.cur) ∨
    (∃ (k : Key) (slots : List (Option OpcodeDescriptor)), KeyAt s l k [] ∧
      s.opcodeTable.find k = some (.group slots) ∧ field = .modrm ∧ atOffset = l.cur + 1) ∨
    ∃ (k : Key) (rest : List Byte) (d : OpcodeDescriptor) (n p : Nat), KeyAt s l k rest ∧
      FinalDescriptor s.opcodeTable k rest d ∧ Spec.fpu ∉ d.specs ∧
      FirstCut (rowFields l.attrs (isGroup s.opcodeTable k) d rest) rest field n p ∧ atOffset = l.cur + 1 + p

/-- A failure of the request with latches `l` and the state that holds it (R900, R904), with the cause of its kind. -/
inductive FailureRecord (s : State) (l : Latches) : State → Failure → Prop
  | ofInvalid (bytes : List Byte) (hc : InvalidCause s l bytes) :
      FailureRecord s l (failed s l .invalidOpcode l.opcodeAt .opcode bytes)
        ⟨.invalidOpcode, l.req.offset, l.opcodeAt, .opcode, bytes⟩
  | ofUnsupported (bytes : List Byte) (hc : UnsupportedCause s l bytes) :
      FailureRecord s l (failed s l .unsupportedAddressingMode l.opcodeAt .opcode bytes)
        ⟨.unsupportedAddressingMode, l.req.offset, l.opcodeAt, .opcode, bytes⟩
  | ofTruncated (p : Nat) (field : FailField) (bytes : List Byte) (hb : bytes = l.req.bytesAt s.params p)
      (hc : TruncatedCause s l p field) :
      FailureRecord s l (failed s l .truncatedInstruction p field bytes)
        ⟨.truncatedInstruction, l.req.offset, p, field, bytes⟩

/-- Serving a row fails with the cause that stopped it. -/
theorem Served.failureRecord (h : Served s l t) (hw : l.req.view.wf = true) (hp : s.response = none) {f : Failure}
    (ht : t.response = some (.err f)) : FailureRecord s l t f := by
  cases h with
  | ofPrefix | ofEscape => cases hp.symm.trans ht
  | ofRow => cases ht
  | ofEmpty hf =>
    cases ht
    exact .ofTruncated _ _ _ hf.symm (.inl ⟨hf, rfl, rfl⟩)
  | ofNoEntry k rest hk hn =>
    cases ht
    exact .ofInvalid _ ⟨k, rest, hk, .inl ⟨hn, rfl⟩⟩
  | ofGroupCut k slots hk hg =>
    cases ht
    exact .ofTruncated _ _ _ (hk.bytesAt hw 0).symm (.inr (.inl ⟨k, slots, hk, hg, rfl, rfl⟩))
  | ofEmptySlot k slots b rest hk hg hj =>
    cases ht
    exact .ofInvalid _ ⟨k, _, hk, .inr ⟨b, rest, rfl, rfl, .inl ⟨slots, hg, hj⟩⟩⟩
  | ofUnsupported k slot d rest hk hd hx =>
    cases ht
    exact .ofUnsupported _ ⟨k, rest, d, hk, final_iff.2 ⟨slot, hd⟩, any_isFpu_eq_true_iff.1 hx, rfl⟩
  | ofNoSegment k slot d b rest hk hd hx hs =>
    cases ht
    exact .ofInvalid _ ⟨k, _, hk, .inr ⟨b, rest, rfl, rfl, .inr ⟨d, final_iff.2 ⟨slot, hd⟩, segmentMissing_iff.1 hs⟩⟩⟩
  | ofCut k slot d rest field q bytes hk hd hx hc hr =>
    cases ht
    obtain ⟨n, p, hcut, rfl, rfl⟩ := readFields_truncated hr
    rw [← isGroup_of_final hd] at hcut
    rw [← Nat.add_assoc]
    exact .ofTruncated _ _ _ (hk.bytesAt hw p).symm (.inr (.inr
      ⟨k, rest, d, n, p, hk, final_iff.2 ⟨slot, hd⟩, any_isFpu_eq_false_iff.1 hx, hcut, rfl⟩))

/-- Settles O24: a failure is one of the three kinds with its cause, and conversely the first field that is cut off
is where reading stops. -/
theorem failureRecords : Obligations.FailureRecords := by
  refine ⟨fun s t l f hinv hv h ht => ?_, fun s l k rest d field n p hv hk hfd hx hseg hcut => ?_⟩
  · obtain ⟨t', h', hserved⟩ := step_served hv
    cases h.symm.trans h'
    cases hserved.failureRecord (hinv.view _ hv.request) hv.response ht with
    | ofInvalid bytes hc => exact ⟨rfl, rfl, fun _ => ⟨rfl, rfl, hc⟩, nofun, nofun⟩
    | ofUnsupported bytes hc => exact ⟨rfl, rfl, nofun, fun _ => ⟨rfl, rfl, hc⟩, nofun⟩
    | ofTruncated p field bytes hb hc => exact ⟨rfl, rfl, nofun, nofun, fun _ => ⟨hb, hc⟩⟩
  · obtain ⟨slot, hd⟩ := final_iff.1 hfd
    rw [isGroup_of_final hd] at hcut
    refine hk.step_of_firstCut hv hd (any_isFpu_eq_false_iff.2 hx) (fun m more hm => ?_) hcut
    rw [← Bool.not_eq_true, segmentMissing_iff]
    exact fun ⟨hS, hreg⟩ => Nat.not_lt.2 hreg (hseg m more hm hS)

/-! ## MAX_INSTR_LEN (R906) -/

theorem Memory.take_ofBytesAt (p n : Nat) (bs : List Byte) :
    (Memory.ofBytesAt p bs).take n = Memory.ofBytesAt p (bs.take n) := by
  induction bs generalizing p n with
  | nil => simp [Memory.ofBytesAt]
  | cons b bs ih =>
    cases n with
    | zero => rfl
    | succ n => simp [Memory.ofBytesAt, ih]

theorem Memory.wf_take {m : Memory} (hw : m.wf = true) (n : Nat) : Memory.wf (m.take n) = true := by
  rw [Memory.eq_ofBytes hw, Memory.ofBytes, Memory.take_ofBytesAt]
  exact Memory.wf_ofBytes _

/-- A limit of `n` bytes reads what the view cut to its first `offset + n` bytes holds. -/
theorem Request.bytesAt_take {r : Request} (hw : r.view.wf = true) (p : Params) (n q : Nat) :
    { r with view := r.view.take (r.offset + n) : Request }.bytesAt { p with maxInstrLen := none } q =
      r.bytesAt { p with maxInstrLen := some n } q := by
  obtain ⟨bs, hbs⟩ : ∃ bs, r.view = Memory.ofBytes bs := ⟨_, Memory.eq_ofBytes hw⟩
  have htake : (Memory.ofBytes bs).take (r.offset + n) = Memory.ofBytes (bs.take (r.offset + n)) :=
    Memory.take_ofBytesAt ..
  simp only [Request.bytesAt, viewLimit, hbs, htake, Memory.bytesFrom_ofBytes, Memory.length_ofBytes]
  rw [List.length_take, List.take_take, min_comm (r.offset + n), min_eq_left (min_le_right ..)]

theorem Request.length_bytesAt_le {r : Request} (hw : r.view.wf = true) (p : Params) (n : Nat) :
    (r.bytesAt { p with maxInstrLen := some n } r.offset).length ≤ n := by
  rw [Request.bytesAt, Memory.length_bytesFrom hw _ (viewLimit_le _ _)]
  simp only [viewLimit]
  omega

/-- Settles O46: the response is given by the bytes read, and an Instruction is among them. -/
theorem maxInstrLenCutsTheView : Obligations.MaxInstrLenCutsTheView := by
  intro p t regs r n hw
  refine ⟨?_, fun ins h => ?_⟩
  · rw [decodeRequest_eq _ t regs hw, decodeRequest_eq _ t regs (Memory.wf_take hw _), Request.bytesAt_take hw]
    rfl
  · obtain ⟨bytes, he, hpre⟩ := (decodeRequest_ok_iff hw).1 h
    exact he.length.le.trans (hpre.length_le.trans (Request.length_bytesAt_le hw p n))

end Sys2Proof.Machine
end

section
/-!
PROOFS of the family 70_reset_and_hazards.md. The block after reset; that it stays initialised, in any state
(`step_initialized`), for ever with the tables it has; and how a request starts.
-/

namespace Sys2Proof.Machine

variable {s t : State}

/-! ## Reset -/

/-- Settles O1: each is the value `State.reset` lists. -/
theorem resetState : Obligations.ResetState :=
  ⟨rfl, rfl, rfl, rfl, rfl, rfl, rfl, rfl⟩

/-- Settles O5: nothing is at the ports or in progress, and there are no tables yet. -/
theorem invariantAtReset : Obligations.InvariantAtReset :=
  .of_no_request (fun _ => ⟨rfl, rfl⟩) nofun nofun rfl rfl

/-! ## Initialised once and for ever -/

theorem withRequest_initialized {g : Latches → State} (h : s.withRequest g = .next t)
    (hg : ∀ l, (g l).initialized = s.initialized) : t.initialized = s.initialized := by
  obtain ⟨l, -, rfl⟩ := State.withRequest_eq_next h
  exact hg l

@[simp] theorem State.decodeFailure_initialized (s : State) (l : Latches) (e : DecodeError) :
    (s.decodeFailure l e).initialized = s.initialized := by
  cases e <;> rfl

@[simp] theorem State.answer_initialized (s : State) (l : Latches) (k : Key) (d : OpcodeDescriptor) (f : Fields) :
    (s.answer l k d f).initialized = s.initialized := by
  unfold State.answer
  split
  · rfl
  · split <;> rfl

theorem serveRow_initialized {k : Key} {d : OpcodeDescriptor} {f : Fields} (h : serveRow k d f s = .next t) :
    t.initialized = s.initialized :=
  withRequest_initialized h fun _ => State.answer_initialized ..

theorem exec_initialized {i : Instr} (h : exec i s = .next t) : t.initialized = s.initialized := by
  rcases exec_cases i with ⟨g, he⟩ | he | he | ⟨name, specs, he⟩ <;> rw [he] at h
  · exact withRequest_initialized h fun _ => rfl
  · exact withRequest_initialized h fun _ => rfl
  · exact withRequest_initialized h fun _ => rfl
  · exact serveRow_initialized h

/-- A step from an initialised state, reached or not, leaves it initialised. -/
theorem step_initialized (hi : s.initialized = true) (h : step s = .next t) : t.initialized = true := by
  cases step_stepped h with
  | ofInitialise => rfl
  | ofSend | ofIdle | ofAccept => exact hi
  | ofServe l _ _ hp hl =>
    cases hd : s.decodeAt l with
    | error e =>
      cases h.symm.trans (step_of_decode_error hi hp hl hd)
      exact (s.decodeFailure_initialized l e).trans hi
    | ok x =>
      obtain ⟨i | ⟨k, d, f⟩, rest⟩ := x
      · exact (exec_initialized ((step_of_decode_row hi hp hl hd).symm.trans h)).trans hi
      · exact (serveRow_initialized ((step_of_decode_configured hi hp hl hd).symm.trans h)).trans hi

/-- Settles O2: the tables are built by the one step that initialises, and kept by every step after it. -/
theorem initialisation : Obligations.Initialisation := by
  obtain ⟨ht, hr, hi, -, -, -, hdefault, -⟩ := resetState
  refine ⟨⟨ht, hr, hi, hdefault⟩, fun s hi hq => step_initialise hi hq, fun s t hi h => ?_,
    fun s r hi hq => step_refuses hi hq⟩
  obtain ⟨hparams, htable, hregs, -⟩ := nothingElseWritten s t hi h
  exact ⟨step_initialized hi h, htable, hregs, hparams⟩

/-! ## A request starts fresh -/

/-- Settles O3: accepting overwrites every latch. -/
theorem acceptStartsFresh : Obligations.AcceptStartsFresh :=
  fun _ _ hi hp hl hq => step_accept hi hp hl hq

end Sys2Proof.Machine
end
